-- ==== Sys2Proof/Word.lean ====
section
/-! DEFINITION. The words of the engine: bytes, 16-bit values, the 32-bit timer, payload lines. -/

namespace Sys2Proof

/-- An 8-bit byte, `u8` (R11, R40). -/
abbrev Byte := BitVec 8

/-- A 16-bit unsigned value, `u16` (R11). -/
abbrev Word := BitVec 16

/-- The 32-bit value of the deadline timer (R27). -/
abbrev Timer := BitVec 32

/-- A payload line: the bytes of the line as the host encoded it (R56). -/
abbrev Line := List Byte

end Sys2Proof
end

