-- ==== Sys2Proof/Config.lean ====
section
/-! DEFINITION. The open parameters of the engine (R9) with the spec's defaults, and the one value the
spec leaves free. The constants the document fixes (R8) are in Machine/Operands.lean. -/

namespace Sys2Proof

/-- The parameters the source document leaves open (R9). `rxqDepth = none` is the spec's "unbounded". -/
structure Params where
  /-- `T_POLL_MS`: the period of the poll tick in milliseconds. -/
  tPollMs : Nat := 10
  /-- `T_RXBYTE_MS`: the timeout of one blocking read. -/
  tRxbyteMs : Nat := 5000
  /-- `BODY_MAX`: the capacity of `rxbuf`. -/
  bodyMax : Nat := 256
  /-- `LINE_MAX`: the longest payload line after normalisation, without its CR LF. -/
  lineMax : Nat := 245
  /-- `NLINES_MAX`: the most payload lines in one cycle. -/
  nlinesMax : Nat := 65535
  /-- `NAK_RESTARTS_WINDOW`: whether a NAK reloads the line window. -/
  nakRestartsWindow : Bool := false
  /-- `PAUSE_AFTER_ACK1`: whether handshake 1 pauses after sending ACK1. -/
  pauseAfterAck1 : Bool := false
  /-- `RXQ_DEPTH`: the depth of the transport's input buffer. -/
  rxqDepth : Option Nat := none
deriving DecidableEq, Repr

/-- The defaults of R9. -/
def Params.default : Params := {}

/-- FREE VALUE (log 9). The 16-bit argument of `EV_H1_BODY_RX` for a body of 65536 bytes or more: R240 gives
`|rxbuf|` and R58 gives 16 bits; the spec states no argument for a length that does not fit. -/
opaque Config.freeLogArg : Nat → BitVec 16

end Sys2Proof
end

