-- ==== Sys2Proof/Syntax.lean ====
section
/-! DEFINITION. The syntax: one constructor of `Instr` per row of spec/opcode_table.json, grouped by the
table's formats C1, C2, HF, DF, S and U (R73). -/

namespace Sys2Proof

/-- The exclusion mode `xm` of CRC.FOLD (R72, R93). -/
inductive Xm where
  | none    -- XM_NONE, code 0
  | dle     -- XM_DLE, code 1
  | dleSoh  -- XM_DLE_SOH, code 2
deriving DecidableEq, Repr

/-- The awaited code of RCG.BYTE (R110). -/
inductive CtlCode where
  | enq
  | eot
deriving DecidableEq, Repr

/-- The expected acknowledgment of RCG.ACK and WAIT.ACK (R108, R123). -/
inductive AckNo where
  | ack0
  | ack1
deriving DecidableEq, Repr

/-- The `token` operand of TX.CTL (R72, R128). -/
inductive Token where
  | enq   -- 0
  | eot   -- 1
  | ack0  -- 2
  | ack1  -- 3
deriving DecidableEq, Repr

/-- The 26 sequencer states of R71: the values of the register `seq`, the engine's program counter. -/
inductive Seq where
  | cycleStart | h1WaitEnq | h1SendAck0 | h1Ack0Pause | h1ReadBody | h1ReadCrc | h1VerifyCrc | h1SendAck1
  | h1WaitEot | h1Done | h2SendEnq | h2WaitAck0 | h2SendId | h2WaitAck1 | h2Pause | h2SendEot | h2Done
  | xfNextLine | xfSendEnq | xfWaitAck0 | xfBuildFrame | xfSendFrame | xfWaitResp | xfDone | cycleEnd
  | h1Ack1Pause
deriving DecidableEq, Repr

/-- The formats of the opcode table (R73). Each is a code space of its own: the byte 0x01 is SOH in C1,
`H1_WAIT_ENQ` in S and CRC.STEP in U. -/
inductive Format where
  | c1         -- one-byte control codes (R60)
  | c2         -- two-byte DLE pairs (R62)
  | hf         -- header frames (R64)
  | df         -- data frames (R65)
  | sequencer  -- S: sequencer state codes (R71)
  | unit       -- U: unit-operation codes (R72)
deriving DecidableEq, Repr

/-- The instructions: the 64 rows of the opcode table. -/
inductive Instr where
  -- C1: control codes on the wire
  | soh | stx | etx | eot | enq | dle | nak | etb
  -- C2: DLE pairs on the wire
  | ack0 | ack1 | dleSoh | dleStx | dleEtx | dleEtb
  -- HF, DF: frames
  | hf (ident : List Byte)
  | dfEtb (line : List Byte)
  | dfEtx (line : List Byte)
  -- S: the rules of the sequencer states
  | cycleStart | h1WaitEnq | h1SendAck0 | h1Ack0Pause | h1ReadBody | h1ReadCrc | h1VerifyCrc | h1SendAck1
  | h1WaitEot | h1Done | h2SendEnq | h2WaitAck0 | h2SendId | h2WaitAck1 | h2Pause | h2SendEot | h2Done
  | xfNextLine | xfSendEnq | xfWaitAck0 | xfBuildFrame | xfSendFrame | xfWaitResp | xfDone | cycleEnd
  | h1Ack1Pause
  -- U: the unit operations
  | crcClr
  | crcStep (b : Byte)
  | crcFold (bytes : List Byte) (xm : Xm)
  | frmHs (ident : List Byte)
  | frmDl (bytes : List Byte) (isLast : Bool)
  | frmNorm (line : List Byte)
  | frmCrc
  | frmDf (line : List Byte) (isLast : Bool)
  | rcgByte (b : Byte) (code : CtlCode)
  | rcgSuffix
  | rcgAck (c0 c1 : Byte) (expected : AckNo)
  | rcgResp
  | waitEnq
  | waitEot
  | waitAck (expected : AckNo)
  | waitResp
  | rdBody
  | rdCrc
  | pause
  | txCtl (token : Token)
  | txFrame
deriving DecidableEq, Repr

/-- The format of an instruction's row in the opcode table. -/
def Instr.format : Instr → Format
  | .soh | .stx | .etx | .eot | .enq | .dle | .nak | .etb => .c1
  | .ack0 | .ack1 | .dleSoh | .dleStx | .dleEtx | .dleEtb => .c2
  | .hf _ => .hf
  | .dfEtb _ | .dfEtx _ => .df
  | .cycleStart | .h1WaitEnq | .h1SendAck0 | .h1Ack0Pause | .h1ReadBody | .h1ReadCrc | .h1VerifyCrc
  | .h1SendAck1 | .h1WaitEot | .h1Done | .h2SendEnq | .h2WaitAck0 | .h2SendId | .h2WaitAck1 | .h2Pause
  | .h2SendEot | .h2Done | .xfNextLine | .xfSendEnq | .xfWaitAck0 | .xfBuildFrame | .xfSendFrame
  | .xfWaitResp | .xfDone | .cycleEnd | .h1Ack1Pause => .sequencer
  | .crcClr | .crcStep _ | .crcFold _ _ | .frmHs _ | .frmDl _ _ | .frmNorm _ | .frmCrc | .frmDf _ _
  | .rcgByte _ _ | .rcgSuffix | .rcgAck _ _ _ | .rcgResp | .waitEnq | .waitEot | .waitAck _ | .waitResp
  | .rdBody | .rdCrc | .pause | .txCtl _ | .txFrame => .unit

/-- The rule of a sequencer state as an instruction: what `Exec(seq)` runs (R31). -/
def Seq.instr : Seq → Instr
  | .cycleStart => .cycleStart
  | .h1WaitEnq => .h1WaitEnq
  | .h1SendAck0 => .h1SendAck0
  | .h1Ack0Pause => .h1Ack0Pause
  | .h1ReadBody => .h1ReadBody
  | .h1ReadCrc => .h1ReadCrc
  | .h1VerifyCrc => .h1VerifyCrc
  | .h1SendAck1 => .h1SendAck1
  | .h1WaitEot => .h1WaitEot
  | .h1Done => .h1Done
  | .h2SendEnq => .h2SendEnq
  | .h2WaitAck0 => .h2WaitAck0
  | .h2SendId => .h2SendId
  | .h2WaitAck1 => .h2WaitAck1
  | .h2Pause => .h2Pause
  | .h2SendEot => .h2SendEot
  | .h2Done => .h2Done
  | .xfNextLine => .xfNextLine
  | .xfSendEnq => .xfSendEnq
  | .xfWaitAck0 => .xfWaitAck0
  | .xfBuildFrame => .xfBuildFrame
  | .xfSendFrame => .xfSendFrame
  | .xfWaitResp => .xfWaitResp
  | .xfDone => .xfDone
  | .cycleEnd => .cycleEnd
  | .h1Ack1Pause => .h1Ack1Pause

end Sys2Proof
end

