-- ==== Sys2Proof/Machine/State.lean ====
section
/-! DEFINITION. The state of the engine and its environment, as plain data, and the state after reset. -/

namespace Sys2Proof.Machine

/-- Why a step can stop the machine. The engine has no traps (R45, R220): its four error kinds are taken as
next states. -/
inductive Fault where
  /-- Raised by `XF_BUILD_FRAME` when `li` names no line of `pay`: R41 and R57 give `pay[i]` for `i < |pay|` only
  and say no rule computes another index. Safe: the run stops (log 15). -/
  | lineIndexOutOfRange
deriving DecidableEq, Repr

/-- Why a step can refuse. -/
inductive Refusal where
  /-- Raised by `exec` for an instruction without a meaning; no arm of this model uses it. Safe. -/
  | notModelled (mnemonic : String)
  /-- Raised by `step` in a state whose parameters are outside R9's types, or with a bounded `RXQ_DEPTH`: the
  spec's own treatment, I2 and I7. Safe (log 10, log 11). -/
  | illegalParameters
  /-- Raised by `CYCLE_START` when the payload source holds more than NLINES_MAX lines or a line longer than
  LINE_MAX: the spec's own treatment, R56 and I6. Safe (log 17). -/
  | payloadOutOfBounds
  /-- Raised by `step` when the bytes put before the machine from outside are no instruction of their format
  (an unassigned unit-operation code, an unassigned operand code, a truncated frame): R69 e and I9. Safe
  (log 22). -/
  | reservedEncoding
deriving DecidableEq, Repr

/-- The three stages of a cycle (R200, R222). -/
inductive Stage where
  | h1 | h2 | xf
deriving DecidableEq, Repr

/-- The fatal error kinds, those `raise` takes (R220, R222). -/
inductive FatalKind where
  | handshakeTimeout
  | checksumMismatch
  | malformedFrame
deriving DecidableEq, Repr

/-- The outcome of a stage (R32). -/
inductive StageOutcome where
  | none
  | success
  | protocolError
  | timeout
deriving DecidableEq, Repr

/-- The diagnostic events (R240), in the order of their codes. -/
inductive Event where
  | cycleStart | h1EnqRx | h1Ack0Tx | h1BodyRx | h1CrcRx | h1CrcOk | h1Ack1Tx | h1EotRx | h1Ok | h1Fail
  | h2EnqTx | h2Ack0Rx | h2IdTx | h2Ack1Rx | h2EotTx | h2Ok | h2Fail
  | xfEnqTx | xfAck0Rx | xfLineTx | xfLineAck | xfLineNak | xfLineTimeout | xfFail | xfDone | cycleEnd
deriving DecidableEq, Repr

/-- An entry of `LOG`: tick, event, argument (R35, R58). -/
structure LogEntry where
  tick : Nat
  event : Event
  arg : Word
deriving DecidableEq, Repr

/-- The result codes of the reader operations (R121 to R127). -/
inductive ReadResult where
  | matched | naked | more | pending | expired | overflow
deriving DecidableEq, Repr

/-- The class RCG.RESP gives the front of RXQ (R109). -/
inductive RespClass where
  | nak | ack | noise | none
deriving DecidableEq, Repr

/-- What a unit operation returns (R100 to R127); a field of the model's own (log 6). -/
inductive UnitResult where
  | none
  | bytes (bs : List Byte)
  | truth (b : Bool)
  | resp (c : RespClass) (n : Nat)
  | code (r : ReadResult)
deriving DecidableEq, Repr

/-- Whether the engine is inside a tick or waits for the next one: the last answer of `Exec`, `Continue` or
`Block` (R31). -/
inductive Phase where
  | running
  | waiting
deriving DecidableEq, Repr

/-- One action of the environment (R17, R30, R37, R49; log 7). -/
inductive Input where
  /-- Bytes arrive from the peer; the next tick delivers them. -/
  | arrive (bytes : List Byte)
  /-- The poll tick (R30). -/
  | tick
  /-- The reset input (R37, R251). -/
  | rst
  /-- The host changes its payload source (R49 b, R205). -/
  | payload (lines : List Line)
deriving DecidableEq, Repr

/-- An instruction put before the machine from outside: its format and its bytes (log 5). -/
structure PortWord where
  format : Format
  bytes : List Byte
deriving DecidableEq, Repr

/-- The state: the engine's registers (R20 to R33), the state the environment holds (R35), and the model's own
fields. INVENTORY.md lists each with its rule. -/
structure State where
  /-- The sequencer state, the engine's program counter (R28). -/
  seq : Seq
  /-- The CRC accumulator (R21). -/
  crc : Word
  /-- The received CRC (R22). -/
  rxcrc : Word
  /-- The bytes of the received header (R23). -/
  rxbuf : List Byte
  /-- The frame last built for transmission (R24). -/
  txf : List Byte
  /-- The engine's copy of the payload (R25). -/
  pay : List Line
  /-- The index of the line being transferred, the status output `LINE` (R26, R33). -/
  li : Word
  /-- The deadline timer (R27). -/
  tmr : Timer
  /-- The status word (R32). -/
  status : Word
  /-- The number of lines abandoned in this cycle (R33). -/
  skipped : Word
  /-- The transport's input queue (R35). -/
  rxq : List Byte
  /-- The output stream: tick and byte, in write order (R35). -/
  txs : List (Nat × Byte)
  /-- The diagnostic stream (R35). -/
  log : List LogEntry
  /-- The host's payload source (R40, R56). -/
  src : List Line
  /-- The bytes that arrived since the previous tick (R30). -/
  arr : List Byte
  /-- The ticks begun since reset; the current tick is number `ticks - 1` (R13, R252; log 12). -/
  ticks : Nat
  /-- The parameters, fixed before reset (R9, R205; log 10). -/
  cfg : Params
  /-- The environment's coming actions (log 7). -/
  inputs : List Input
  /-- What the environment does over and over once `inputs` is used up; when empty, it ticks and the peer is silent
  (R279; log 7). -/
  recurring : List Input
  /-- Inside a tick, or waiting for the next (R31; log 8). -/
  phase : Phase
  /-- An instruction put before the machine from outside (log 5). -/
  port : Option PortWord
  /-- The result of the last unit operation run as an instruction (log 6). -/
  res : UnitResult
deriving DecidableEq, Repr

/-- The machine right after reset: the registers of R37, the streams empty (95_test_vectors.md section 3), the
default parameters (R9), waiting for tick 0 (R250). Log 13 says how a program comes to run from here. -/
def State.reset : State where
  seq := .cycleStart
  crc := 0x0000
  rxcrc := 0x0000
  rxbuf := []
  txf := []
  pay := []
  li := 0
  tmr := 0
  status := 0x0000
  skipped := 0
  rxq := []
  txs := []
  log := []
  src := []
  arr := []
  ticks := 0
  cfg := Params.default
  inputs := []
  recurring := []
  phase := .waiting
  port := none
  res := .none

end Sys2Proof.Machine
end

