-- ==== Sys2Proof/Machine/Flags.lean ====
section
/-! DEFINITION. The fields of `STATUS` (R32), the codes of outcomes and error kinds (R32, R220, R221) and the
codes of the diagnostic events (R240). -/

namespace Sys2Proof.Machine

/-! ### Codes -/

/-- The code of a stage's outcome (R32). -/
def outcomeCode : StageOutcome → BitVec 2
  | .none => 0
  | .success => 1
  | .protocolError => 2
  | .timeout => 3

/-- The code of a fatal error kind (R220). -/
def fatalCode : FatalKind → BitVec 3
  | .handshakeTimeout => 1
  | .checksumMismatch => 2
  | .malformedFrame => 3

/-- The code of `LineTransferTimeout` (R220). -/
def lineTimeoutCode : BitVec 3 := 4

/-- The outcome a fatal error kind gives its stage (R221). -/
def fatalOutcome : FatalKind → StageOutcome
  | .handshakeTimeout => .timeout
  | .checksumMismatch => .protocolError
  | .malformedFrame => .protocolError

/-- The code of a diagnostic event (R240). -/
def eventCode : Event → Byte
  | .cycleStart => 0x01
  | .h1EnqRx => 0x02
  | .h1Ack0Tx => 0x03
  | .h1BodyRx => 0x04
  | .h1CrcRx => 0x05
  | .h1CrcOk => 0x06
  | .h1Ack1Tx => 0x07
  | .h1EotRx => 0x08
  | .h1Ok => 0x09
  | .h1Fail => 0x0A
  | .h2EnqTx => 0x0B
  | .h2Ack0Rx => 0x0C
  | .h2IdTx => 0x0D
  | .h2Ack1Rx => 0x0E
  | .h2EotTx => 0x0F
  | .h2Ok => 0x10
  | .h2Fail => 0x11
  | .xfEnqTx => 0x12
  | .xfAck0Rx => 0x13
  | .xfLineTx => 0x14
  | .xfLineAck => 0x15
  | .xfLineNak => 0x16
  | .xfLineTimeout => 0x17
  | .xfFail => 0x18
  | .xfDone => 0x19
  | .cycleEnd => 0x1A

/-! ### The fields of `STATUS` (R32) -/

/-- `H1_OUT`, bits 1:0. -/
def h1Out (st : Word) : BitVec 2 := st.extractLsb' 0 2

/-- `H2_OUT`, bits 3:2. -/
def h2Out (st : Word) : BitVec 2 := st.extractLsb' 2 2

/-- `XF_OUT`, bits 5:4. -/
def xfOut (st : Word) : BitVec 2 := st.extractLsb' 4 2

/-- `ERR`, bits 8:6. -/
def errField (st : Word) : BitVec 3 := st.extractLsb' 6 3

/-- The reserved bits 15:9. -/
def reservedField (st : Word) : BitVec 7 := st.extractLsb' 9 7

/-- Write `H1_OUT`. -/
def setH1Out (st : Word) (v : BitVec 2) : Word := (st &&& 0xFFFC) ||| v.setWidth 16

/-- Write `H2_OUT`. -/
def setH2Out (st : Word) (v : BitVec 2) : Word := (st &&& 0xFFF3) ||| (v.setWidth 16 <<< 2)

/-- Write `XF_OUT`. -/
def setXfOut (st : Word) (v : BitVec 2) : Word := (st &&& 0xFFCF) ||| (v.setWidth 16 <<< 4)

/-- Write `ERR`. -/
def setErr (st : Word) (v : BitVec 3) : Word := (st &&& 0xFE3F) ||| (v.setWidth 16 <<< 6)

/-- The outcome field of a stage. -/
def stageOut (x : Stage) (st : Word) : BitVec 2 :=
  match x with
  | .h1 => h1Out st
  | .h2 => h2Out st
  | .xf => xfOut st

/-- Write the outcome field of a stage. -/
def setStageOut (x : Stage) (st : Word) (o : StageOutcome) : Word :=
  match x with
  | .h1 => setH1Out st (outcomeCode o)
  | .h2 => setH2Out st (outcomeCode o)
  | .xf => setXfOut st (outcomeCode o)

/-- The event a stage's failure logs (R222). -/
def failEvent : Stage → Event
  | .h1 => .h1Fail
  | .h2 => .h2Fail
  | .xf => .xfFail

/-- The DONE state of a stage (R222). -/
def doneState : Stage → Seq
  | .h1 => .h1Done
  | .h2 => .h2Done
  | .xf => .xfDone

end Sys2Proof.Machine
end

