-- ==== Sys2Proof/Machine/Operands.lean ====
section
/-! DEFINITION. The pure parts of the engine: the constants of R8, the control bytes of R60 to R62, the
CRC-16 unit (R91, R93), the frame constructors (R100 to R106), the recognizer (R107 to R110) and the tick
counts of R9. Nothing here reads or writes the machine's state. -/

namespace Sys2Proof.Machine

/-! ### Constants (R8, R61) -/

/-- `T_ENQ_MS` (R8). -/
def tEnqMs : Nat := 300000

/-- `T_EOT_MS` (R8). -/
def tEotMs : Nat := 5000

/-- `T_ACK_MS` (R8). -/
def tAckMs : Nat := 5000

/-- `T_LINE_MS` (R8). -/
def tLineMs : Nat := 5000

/-- `T_PAUSE_MS` (R8). -/
def tPauseMs : Nat := 50

/-- `CRC_INIT` (R8, R92). -/
def crcInit : Word := 0x0000

/-- `CRC_MASK` (R8, R91). -/
def crcMask : Word := 0x5FFE

/-- `DEV_ID`, the characters `SWR0010001` in ASCII (R8, R61; PRESUMED for the character codes, log 19). -/
def devId : List Byte := [0x53, 0x57, 0x52, 0x30, 0x30, 0x31, 0x30, 0x30, 0x30, 0x31]

/-- `REV_LEVEL`, the characters `R01L01` in ASCII (R8, R61; PRESUMED for the character codes, log 19). -/
def revLevel : List Byte := [0x52, 0x30, 0x31, 0x4C, 0x30, 0x31]

/-- The identification bytes of the one header the engine sends: `DEV_ID`, the letter R, `REV_LEVEL` (R104). -/
def idBytes : List Byte := devId ++ [0x52] ++ revLevel

/-! ### Tick counts (R9) -/

/-- `N_ENQ` (R9). -/
def nEnq (p : Params) : Timer := BitVec.ofNat 32 (tEnqMs / p.tPollMs)

/-- `N_EOT` (R9). -/
def nEot (p : Params) : Timer := BitVec.ofNat 32 (tEotMs / p.tPollMs)

/-- `N_ACK` (R9). -/
def nAck (p : Params) : Timer := BitVec.ofNat 32 (tAckMs / p.tPollMs)

/-- `N_LINE` (R9). -/
def nLine (p : Params) : Timer := BitVec.ofNat 32 (tLineMs / p.tPollMs)

/-- `N_PAUSE` (R9). -/
def nPause (p : Params) : Timer := BitVec.ofNat 32 (tPauseMs / p.tPollMs)

/-- `N_RXB` (R9). -/
def nRxb (p : Params) : Timer := BitVec.ofNat 32 (p.tRxbyteMs / p.tPollMs)

/-- The configurations the rules are stated for: the types of R9, I2 and I7, with NLINES_MAX at most 65535
(R26) and N_RXB within the 32 bits of `tmr` (R27) (DEDUCED, log 11). -/
def legalParams (p : Params) : Bool :=
  decide (0 < p.tPollMs) && decide (50 % p.tPollMs = 0)
    && decide (0 < p.tRxbyteMs) && decide (p.tRxbyteMs % p.tPollMs = 0)
    && decide (p.tRxbyteMs / p.tPollMs < 4294967296)
    && decide (4 ≤ p.bodyMax) && decide (p.nlinesMax ≤ 65535) && p.rxqDepth.isNone

/-! ### Control bytes (R60 to R62) -/

def bSOH : Byte := 0x01
def bSTX : Byte := 0x02
def bETX : Byte := 0x03
def bEOT : Byte := 0x04
def bENQ : Byte := 0x05
def bDLE : Byte := 0x10
def bNAK : Byte := 0x15
def bETB : Byte := 0x17
/-- Carriage return (R61). -/
def bCR : Byte := 0x0D
/-- Line feed (R61). -/
def bLF : Byte := 0x0A

/-- The second byte of an acknowledgment pair: 0x30 or 0x31 (R62, R63). -/
def ackDigit : AckNo → Byte
  | .ack0 => 0x30
  | .ack1 => 0x31

/-- The byte a RCG.BYTE awaits (R110). -/
def ctlByte : CtlCode → Byte
  | .enq => bENQ
  | .eot => bEOT

/-- The bytes of a bare control token (R128). -/
def tokenBytes : Token → List Byte
  | .enq => [bENQ]
  | .eot => [bEOT]
  | .ack0 => [bDLE, ackDigit .ack0]
  | .ack1 => [bDLE, ackDigit .ack1]

/-! ### The CRC-16 unit (R91 to R93) -/

/-- One of the eight iterations of CRC.STEP, with input bit `d` (R91; the wiring is the spec's decision D1,
log 18). -/
def crcBit (s : Word) (d : Bool) : Word :=
  let f0 := s.getLsbD 0 ^^ d
  let f1 := s.getLsbD 1 ^^ f0
  let f14 := s.getLsbD 14 ^^ f0
  (((s >>> 1) &&& crcMask) ||| (BitVec.ofBool f1).setWidth 16)
    ||| ((BitVec.ofBool f14).setWidth 16 <<< 13) ||| ((BitVec.ofBool f0).setWidth 16 <<< 15)

/-- CRC.STEP: the eight bits of the byte, bit 0 first (R91). -/
def crcByte (s : Word) (b : Byte) : Word :=
  [0, 1, 2, 3, 4, 5, 6, 7].foldl (fun s j => crcBit s (b.getLsbD j)) s

/-- The bytes a fold skips under an exclusion mode (R93). -/
def excluded (xm : Xm) (x : Byte) : Bool :=
  match xm with
  | .none => false
  | .dle => x == bDLE
  | .dleSoh => x == bDLE || x == bSOH

/-- CRC.FOLD: the CRC of a byte sequence under an exclusion mode, left to right from 0x0000 (R93). -/
def crcOf (xm : Xm) (bytes : List Byte) : Word :=
  bytes.foldl (fun s b => if excluded xm b then s else crcByte s b) crcInit

/-- The two wire bytes of a CRC, low byte first (R42, R66). -/
def crcBytes (c : Word) : List Byte := [c.extractLsb' 0 8, c.extractLsb' 8 8]

/-- The CRC of two received bytes, first byte low (R42, R66). -/
def crcFromWire (b0 b1 : Byte) : Word := b0.setWidth 16 ||| (b1.setWidth 16 <<< 8)

/-! ### The frame constructors (R100 to R106) -/

/-- FRM.HS: a handshake body (R100). -/
def headerBody (ident : List Byte) : List Byte := [bDLE, bSOH] ++ ident ++ [bDLE, bETX]

/-- FRM.DL: a data line with its end mark (R101). -/
def withSuffix (bytes : List Byte) (isLast : Bool) : List Byte :=
  if isLast then bytes ++ [bDLE, bETX] else bytes ++ [bDLE, bETB]

/-- CR or LF. -/
def isEol (b : Byte) : Bool := b == bCR || b == bLF

/-- A line less every trailing CR and LF (R102; the spec's decision D11, log 18). -/
def stripEol (line : List Byte) : List Byte := (line.reverse.dropWhile isEol).reverse

/-- FRM.NORM: the line with exactly one CR LF at its end (R102). -/
def normLine (line : List Byte) : List Byte := stripEol line ++ [bCR, bLF]

/-- The bytes of a data frame that its CRC is folded over: text, CR LF and end mark, not the DLE STX before
them (R103, R105; the spec's decision D16, log 18). -/
def dataBody (line : List Byte) (isLast : Bool) : List Byte := withSuffix (normLine line) isLast

/-- The CRC of a data frame (R103, R105). -/
def dataCrc (line : List Byte) (isLast : Bool) : Word := crcOf .dle (dataBody line isLast)

/-- FRM.DF: a complete data frame (R65, R105). -/
def dataFrame (line : List Byte) (isLast : Bool) : List Byte :=
  [bDLE, bSTX] ++ dataBody line isLast ++ crcBytes (dataCrc line isLast)

/-- The CRC of a header the engine sends: no byte excluded (R64, R103). -/
def headerCrc (ident : List Byte) : Word := crcOf .none (headerBody ident)

/-- A complete header frame as the engine sends it (R64). -/
def headerFrame (ident : List Byte) : List Byte := headerBody ident ++ crcBytes (headerCrc ident)

/-! ### The recognizer (R107 to R110) -/

/-- RCG.BYTE (R110). -/
def isCtl (b : Byte) (code : CtlCode) : Bool := b == ctlByte code

/-- RCG.SUFFIX: the last two bytes are DLE ETX (R107). -/
def endsInSuffix (buf : List Byte) : Bool :=
  match buf.reverse with
  | last :: before :: _ => before == bDLE && last == bETX
  | _ => false

/-- RCG.ACK (R108). -/
def isAck (c0 c1 : Byte) (expected : AckNo) : Bool := c0 == bDLE && c1 == ackDigit expected

end Sys2Proof.Machine
end

