-- ==== Sys2Proof/Machine/Ops.lean ====
section
/-! DEFINITION. The named operations over the state: the transactions of R50 to R58, the control transfer of R29
and R31, taking an error (`raise`, R222) and the non-fatal error beside it (R187), the reset input (R37), and
the unit operations in the form the state rules call them (R92 to R129). -/

namespace Sys2Proof.Machine

/-! ### Control transfer (R29, R31) -/

/-- `seq <- q; return Continue`. -/
def State.goTo (s : State) (q : Seq) : State := { s with seq := q, phase := .running }

/-- `return Continue` with `seq` unchanged (R31, R144). -/
def State.again (s : State) : State := { s with phase := .running }

/-- `return Block`: wait for the next tick (R31). -/
def State.block (s : State) : State := { s with phase := .waiting }

/-- Load the deadline timer (R27, R130). -/
def State.load (s : State) (n : Timer) : State := { s with tmr := n }

/-! ### Transactions (R50 to R58) -/

/-- The number of the current tick, the stamp `k` of R53 and R58 (log 12). -/
def State.now (s : State) : Nat := s.ticks - 1

/-- `RxAvail()` (R50). -/
def State.rxAvail (s : State) : Nat := s.rxq.length

/-- `RxPop()` after the test `RxAvail() >= 1`: none when the test fails (R51). -/
def State.rxPop (s : State) : Option (Byte × State) :=
  match s.rxq with
  | b :: rest => some (b, { s with rxq := rest })
  | [] => none

/-- `RxPop2()` after the test `RxAvail() >= 2`: none when the test fails (R51). -/
def State.rxPop2 (s : State) : Option (Byte × Byte × State) :=
  match s.rxq with
  | a :: b :: rest => some (a, b, { s with rxq := rest })
  | _ => none

/-- `RxPeek()` after the test `RxAvail() >= 1` (R51). -/
def State.rxPeek (s : State) : Option Byte := s.rxq.head?

/-- `repeat n times: RxPop()` (R124). -/
def State.rxDrop (s : State) (n : Nat) : State := { s with rxq := s.rxq.drop n }

/-- `RxClear()` (R52). -/
def State.rxClear (s : State) : State := { s with rxq := [] }

/-- `TxWrite(bytes)`: the bytes join TXS with the current tick's stamp (R53). -/
def State.txWrite (s : State) (bytes : List Byte) : State :=
  { s with txs := s.txs ++ bytes.map fun b => (s.now, b) }

/-- `TxFlush()`: every write is already in TXS, so nothing is left to drain (R54). -/
def State.txFlush (s : State) : State := s

/-- `TxClear()`: the output buffer is always empty here, and TXS keeps what it has (R55). -/
def State.txClear (s : State) : State := s

/-- The payloads a cycle may load: at most NLINES_MAX lines, each at most LINE_MAX bytes after normalisation
without its CR LF (R25, R56). -/
def payloadLegal (p : Params) (lines : List Line) : Bool :=
  decide (lines.length ≤ p.nlinesMax) && lines.all fun l => decide ((stripEol l).length ≤ p.lineMax)

/-- `PayLoad()`: the payload source's lines; none for a payload the spec gives no meaning (R56). -/
def State.payLoad (s : State) : Option (List Line) :=
  if payloadLegal s.cfg s.src then some s.src else none

/-- `pay[li]`: none where `li` names no line (R57). -/
def State.payLine (s : State) : Option Line := s.pay[s.li.toNat]?

/-- `IsLast(li)` (R57). -/
def State.isLastLine (s : State) : Bool := s.li.toNat + 1 == s.pay.length

/-- `Log(ev, arg)` (R58). -/
def State.logEvent (s : State) (ev : Event) (arg : Word) : State :=
  { s with log := s.log ++ [⟨s.now, ev, arg⟩] }

/-- The 16-bit argument of `EV_H1_BODY_RX` (R240); a length that does not fit gives a free value (log 9). -/
def bodyLenArg (n : Nat) : Word := if n < 65536 then BitVec.ofNat 16 n else Config.freeLogArg n

/-! ### Errors (R187, R222) -/

/-- `raise K` in stage `X`, the engine's trap entry (R222). -/
def State.raise (s : State) (x : Stage) (k : FatalKind) : State :=
  let s := { s with status := setStageOut x (setErr s.status (fatalCode k)) (fatalOutcome k) }
  (s.logEvent (failEvent x) ((fatalCode k).setWidth 16)).goTo (doneState x)

/-- `LineTimeout()`, the non-fatal error: record it, skip the line, go on with the next (R187, R223). It is the one
return-like path from an error (R228). In states no run reaches the increments wrap (log 14). -/
def State.lineTimeout (s : State) : State :=
  let s := { s with status := setErr s.status lineTimeoutCode, skipped := s.skipped + 1 }
  let s := s.logEvent .xfLineTimeout s.li
  { s with li := s.li + 1 }.goTo .xfNextLine

/-! ### The environment's actions (R30, R37, R49) -/

/-- Bytes arrive from the peer (R30): they wait for the next tick. -/
def State.arrive (s : State) (bytes : List Byte) : State := { s with arr := s.arr ++ bytes }

/-- The poll tick: all arrivals join RXQ before the engine runs (R30, R31). -/
def State.beginTick (s : State) : State :=
  { s with rxq := s.rxq ++ s.arr, arr := [], ticks := s.ticks + 1, phase := .running }

/-- The reset input: the registers of R37 take their reset values and the engine waits for the next tick
(R250); RXQ, TXS, LOG and the rest of the environment stay (R37, R251; log 20). -/
def State.rst (s : State) : State :=
  { s with
    seq := .cycleStart, crc := 0x0000, rxcrc := 0x0000, rxbuf := [], txf := [], pay := [], li := 0, tmr := 0
    status := 0x0000, skipped := 0, ticks := 0, phase := .waiting }

/-- The host changes its payload source (R49 b; log 23). -/
def State.setSource (s : State) (lines : List Line) : State := { s with src := lines }

/-- One action of the environment on the machine (log 7). -/
def State.take (s : State) : Input → State
  | .arrive bytes => s.arrive bytes
  | .tick => s.beginTick
  | .rst => s.rst
  | .payload lines => s.setSource lines

/-- The environment's next action and the listed ones after it: the front of `inputs`, the front of `recurring` when
that list is used up, a tick when there are no recurring ones either (R279; log 7). -/
def State.coming (s : State) : Input × List Input :=
  match s.inputs, s.recurring with
  | i :: rest, _ => (i, rest)
  | [], i :: rest => (i, rest)
  | [], [] => (.tick, [])

/-- The environment performs its next action (log 7). -/
def State.environment (s : State) : State :=
  { s with inputs := s.coming.2 }.take s.coming.1

/-! ### Unit operations on the state (R91 to R129) -/

/-- CRC.CLR (R92). -/
def State.crcClear (s : State) : State := { s with crc := crcInit }

/-- CRC.STEP (R91). -/
def State.crcFeed (s : State) (b : Byte) : State := { s with crc := crcByte s.crc b }

/-- CRC.FOLD (R93). -/
def State.crcFoldOver (s : State) (bytes : List Byte) (xm : Xm) : State := { s with crc := crcOf xm bytes }

/-- FRM.HS (R100). Nothing bounds the frame here: one longer than R24's capacity is kept whole (log 26). -/
def State.buildHeader (s : State) (ident : List Byte) : State := { s with txf := headerBody ident }

/-- FRM.CRC: the CRC joins the frame, low byte first (R106). Nothing bounds the frame here: one longer than R24's
capacity is kept whole (log 26). -/
def State.appendCrc (s : State) : State := { s with txf := s.txf ++ crcBytes s.crc }

/-- FRM.DF (R105). The text is not checked against LINE_MAX (R102), nor the frame against R24's capacity: both are
kept whole (log 26). -/
def State.buildData (s : State) (line : List Byte) (isLast : Bool) : State :=
  { s with crc := dataCrc line isLast, txf := dataFrame line isLast }

/-- TX.CTL (R128). -/
def State.sendToken (s : State) (t : Token) : State := (s.txWrite (tokenBytes t)).txFlush

/-- TX.FRAME (R129). -/
def State.sendFrame (s : State) : State := (s.txWrite s.txf).txFlush

/-- FRM.HS, CRC.FOLD over all its bytes, FRM.CRC, TX.FRAME: build and send a header (R64, R104). -/
def State.sendHeader (s : State) (ident : List Byte) : State :=
  let s := s.buildHeader ident
  ((s.crcFoldOver s.txf .none).appendCrc).sendFrame

/-- RCG.RESP: the class of the front of RXQ and how many bytes it takes (R109). -/
def State.classify (s : State) : RespClass × Nat :=
  match s.rxq with
  | [] => (.none, 0)
  | a :: more =>
    if a == bNAK then (.nak, 1)
    else
      match more with
      | [] => (.none, 0)
      | b :: _ => if isAck a b .ack0 || isAck a b .ack1 then (.ack, 2) else (.noise, 2)

/-- A polled attempt: the deadline first, then at most one unit (R120, R226). -/
def pollAttempt (attempt : State → ReadResult × State) (s : State) : ReadResult × State :=
  if s.tmr == 0 then (.expired, s) else attempt { s with tmr := s.tmr - 1 }

/-- The read of a one-byte wait: a byte that is not the awaited code is lost (R121, R122). -/
def readCtl (code : CtlCode) (s : State) : ReadResult × State :=
  match s.rxPop with
  | some (b, s') => (if isCtl b code then .matched else .pending, s')
  | none => (.pending, s)

/-- The read of a chunk wait: a chunk is taken only when two bytes are there, and lost when it does not match
(R123). -/
def readAck (expected : AckNo) (s : State) : ReadResult × State :=
  match s.rxPop2 with
  | some (c0, c1, s') => (if isAck c0 c1 expected then .matched else .pending, s')
  | none => (.pending, s)

/-- The read of a line's response: at most one token (R124). -/
def readResp (s : State) : ReadResult × State :=
  match s.classify with
  | (.nak, n) => (.naked, s.rxDrop n)
  | (.ack, n) => (.matched, s.rxDrop n)
  | (.noise, n) => (.pending, s.rxDrop n)
  | (.none, n) => (.pending, s.rxDrop n)

/-- WAIT.ENQ (R121). -/
def State.waitEnqOnce (s : State) : ReadResult × State := pollAttempt (readCtl .enq) s

/-- WAIT.EOT (R122). -/
def State.waitEotOnce (s : State) : ReadResult × State := pollAttempt (readCtl .eot) s

/-- WAIT.ACK (R123). -/
def State.waitAckOnce (s : State) (expected : AckNo) : ReadResult × State := pollAttempt (readAck expected) s

/-- WAIT.RESP (R124). -/
def State.waitRespOnce (s : State) : ReadResult × State := pollAttempt readResp s

/-- A tick of idling: the timer is looked at after the data (R125, R126, R226). -/
def State.idle (s : State) : ReadResult × State :=
  if s.tmr == 0 then (.expired, s) else (.pending, { s with tmr := s.tmr - 1 })

/-- RD.BODY (R125). -/
def State.readBodyOnce (s : State) : ReadResult × State :=
  if s.rxbuf.length == s.cfg.bodyMax then (.overflow, s)
  else
    match s.rxPop with
    | some (b, s') =>
      let s' := { s' with rxbuf := s'.rxbuf ++ [b], tmr := nRxb s'.cfg }
      (if endsInSuffix s'.rxbuf then .matched else .more, s')
    | none => s.idle

/-- RD.CRC (R126). -/
def State.readCrcOnce (s : State) : ReadResult × State :=
  match s.rxPop2 with
  | some (b0, b1, s') => (.matched, { s' with rxcrc := crcFromWire b0 b1 })
  | none => s.idle

/-- PAUSE (R127). -/
def State.pauseOnce (s : State) : ReadResult × State :=
  if s.tmr == 0 then (.matched, s) else (.pending, { s with tmr := s.tmr - 1 })

/-- The result of a unit operation run as an instruction of its own (log 6). -/
def State.answer (s : State) (r : UnitResult) : State := { s with res := r }

end Sys2Proof.Machine
end

