-- ==== Sys2Proof/Machine/Driver.lean ====
section
/-! DEFINITION. The driver cycle: `Exec` of `CYCLE_START` and `CYCLE_END` (R201, R203). -/

namespace Sys2Proof.Machine

/-- `CYCLE_START` (R201); a payload outside the bounds of R56 is refused before anything is changed (log 17). -/
def execCycleStart (s : State) : Host.Outcome State Fault Refusal :=
  match s.payLoad with
  | none => .refused .payloadOutOfBounds
  | some lines =>
    let s := s.rxClear.txClear
    let s :=
      { s with
        pay := lines, crc := crcInit, rxcrc := 0x0000, rxbuf := [], txf := [], li := 0, status := 0x0000
        skipped := 0 }
    .next (((s.logEvent .cycleStart 0).load (nEnq s.cfg)).goTo .h1WaitEnq)

/-- `CYCLE_END` (R203). -/
def execCycleEnd (s : State) : Host.Outcome State Fault Refusal :=
  .next ((s.logEvent .cycleEnd s.status).goTo .cycleStart)

end Sys2Proof.Machine
end

