-- ==== Sys2Proof/Machine/Handshake1.lean ====
section
/-! DEFINITION. The first handshake (responder role): `Exec` of the states `H1_WAIT_ENQ` to `H1_DONE` and of
`H1_ACK1_PAUSE` (R141 to R150). -/

namespace Sys2Proof.Machine

/-- `H1_WAIT_ENQ` (R141). -/
def execH1WaitEnq (s : State) : Host.Outcome State Fault Refusal :=
  match s.waitEnqOnce with
  | (.matched, s) => .next ((s.logEvent .h1EnqRx 0).goTo .h1SendAck0)
  | (.expired, s) => .next (s.raise .h1 .handshakeTimeout)
  | (_, s) => .next s.block

/-- `H1_SEND_ACK0` (R142). -/
def execH1SendAck0 (s : State) : Host.Outcome State Fault Refusal :=
  let s := (s.sendToken .ack0).logEvent .h1Ack0Tx 0
  .next ((s.load (nPause s.cfg)).goTo .h1Ack0Pause)

/-- `H1_ACK0_PAUSE` (R143). -/
def execH1Ack0Pause (s : State) : Host.Outcome State Fault Refusal :=
  match s.pauseOnce with
  | (.matched, s) => .next (({ s with rxbuf := [] }.load (nRxb s.cfg)).goTo .h1ReadBody)
  | (_, s) => .next s.block

/-- `H1_READ_BODY` (R144). -/
def execH1ReadBody (s : State) : Host.Outcome State Fault Refusal :=
  match s.readBodyOnce with
  | (.matched, s) =>
    .next (((s.logEvent .h1BodyRx (bodyLenArg s.rxbuf.length)).load (nRxb s.cfg)).goTo .h1ReadCrc)
  | (.more, s) => .next s.again
  | (.expired, s) => .next (s.raise .h1 .malformedFrame)
  | (.overflow, s) => .next (s.raise .h1 .malformedFrame)
  | (_, s) => .next s.block

/-- `H1_READ_CRC` (R145). -/
def execH1ReadCrc (s : State) : Host.Outcome State Fault Refusal :=
  match s.readCrcOnce with
  | (.matched, s) => .next ((s.logEvent .h1CrcRx s.rxcrc).goTo .h1VerifyCrc)
  | (.expired, s) => .next (s.raise .h1 .malformedFrame)
  | (_, s) => .next s.block

/-- `H1_VERIFY_CRC` (R146). -/
def execH1VerifyCrc (s : State) : Host.Outcome State Fault Refusal :=
  let s := s.crcFoldOver s.rxbuf .dleSoh
  if s.crc == s.rxcrc then .next ((s.logEvent .h1CrcOk s.crc).goTo .h1SendAck1)
  else .next (s.raise .h1 .checksumMismatch)

/-- `H1_SEND_ACK1` (R147). -/
def execH1SendAck1 (s : State) : Host.Outcome State Fault Refusal :=
  let s := (s.sendToken .ack1).logEvent .h1Ack1Tx 0
  if s.cfg.pauseAfterAck1 then .next ((s.load (nPause s.cfg)).goTo .h1Ack1Pause)
  else .next ((s.load (nEot s.cfg)).goTo .h1WaitEot)

/-- `H1_WAIT_EOT` (R148). -/
def execH1WaitEot (s : State) : Host.Outcome State Fault Refusal :=
  match s.waitEotOnce with
  | (.matched, s) =>
    let s := s.logEvent .h1EotRx 0
    let s := { s with status := setStageOut .h1 s.status .success }
    .next ((s.logEvent .h1Ok 0).goTo .h1Done)
  | (.expired, s) => .next (s.raise .h1 .handshakeTimeout)
  | (_, s) => .next s.block

/-- `H1_DONE` (R149). -/
def execH1Done (s : State) : Host.Outcome State Fault Refusal :=
  if h1Out s.status == outcomeCode .success then .next (s.goTo .h2SendEnq) else .next (s.goTo .cycleEnd)

/-- `H1_ACK1_PAUSE` (R150). -/
def execH1Ack1Pause (s : State) : Host.Outcome State Fault Refusal :=
  match s.pauseOnce with
  | (.matched, s) => .next ((s.load (nEot s.cfg)).goTo .h1WaitEot)
  | (_, s) => .next s.block

end Sys2Proof.Machine
end

