-- ==== Sys2Proof/Machine/Handshake2.lean ====
section
/-! DEFINITION. The second handshake (initiator role): `Exec` of the states `H2_SEND_ENQ` to `H2_DONE` (R161 to
R167). -/

namespace Sys2Proof.Machine

/-- `H2_SEND_ENQ` (R161). -/
def execH2SendEnq (s : State) : Host.Outcome State Fault Refusal :=
  let s := (s.sendToken .enq).logEvent .h2EnqTx 0
  .next ((s.load (nAck s.cfg)).goTo .h2WaitAck0)

/-- `H2_WAIT_ACK0` (R162). -/
def execH2WaitAck0 (s : State) : Host.Outcome State Fault Refusal :=
  match s.waitAckOnce .ack0 with
  | (.matched, s) => .next ((s.logEvent .h2Ack0Rx 0).goTo .h2SendId)
  | (.expired, s) => .next (s.raise .h2 .handshakeTimeout)
  | (_, s) => .next s.block

/-- `H2_SEND_ID` (R163). -/
def execH2SendId (s : State) : Host.Outcome State Fault Refusal :=
  let s := s.sendHeader idBytes
  let s := s.logEvent .h2IdTx s.crc
  .next ((s.load (nAck s.cfg)).goTo .h2WaitAck1)

/-- `H2_WAIT_ACK1` (R164). -/
def execH2WaitAck1 (s : State) : Host.Outcome State Fault Refusal :=
  match s.waitAckOnce .ack1 with
  | (.matched, s) => .next (((s.logEvent .h2Ack1Rx 0).load (nPause s.cfg)).goTo .h2Pause)
  | (.expired, s) => .next (s.raise .h2 .handshakeTimeout)
  | (_, s) => .next s.block

/-- `H2_PAUSE` (R165). -/
def execH2Pause (s : State) : Host.Outcome State Fault Refusal :=
  match s.pauseOnce with
  | (.matched, s) => .next (s.goTo .h2SendEot)
  | (_, s) => .next s.block

/-- `H2_SEND_EOT` (R166). -/
def execH2SendEot (s : State) : Host.Outcome State Fault Refusal :=
  let s := (s.sendToken .eot).logEvent .h2EotTx 0
  let s := { s with status := setStageOut .h2 s.status .success }
  .next ((s.logEvent .h2Ok 0).goTo .h2Done)

/-- `H2_DONE` (R167). -/
def execH2Done (s : State) : Host.Outcome State Fault Refusal :=
  if h2Out s.status == outcomeCode .success then .next (s.goTo .xfNextLine) else .next (s.goTo .cycleEnd)

end Sys2Proof.Machine
end

