-- ==== Sys2Proof/Machine/Transfer.lean ====
section
/-! DEFINITION. The data transfer loop: `Exec` of the states `XF_NEXT_LINE` to `XF_DONE` (R181 to R189). -/

namespace Sys2Proof.Machine

/-- `XF_NEXT_LINE` (R181). -/
def execXfNextLine (s : State) : Host.Outcome State Fault Refusal :=
  if s.pay.length ≤ s.li.toNat then
    let s := { s with status := setStageOut .xf s.status .success }
    .next ((s.logEvent .xfDone s.skipped).goTo .xfDone)
  else if s.li == 0 then .next (s.goTo .xfSendEnq)
  else .next (s.goTo .xfBuildFrame)

/-- `XF_SEND_ENQ` (R182). -/
def execXfSendEnq (s : State) : Host.Outcome State Fault Refusal :=
  let s := (s.sendToken .enq).logEvent .xfEnqTx 0
  .next ((s.load (nAck s.cfg)).goTo .xfWaitAck0)

/-- `XF_WAIT_ACK0` (R183). -/
def execXfWaitAck0 (s : State) : Host.Outcome State Fault Refusal :=
  match s.waitAckOnce .ack0 with
  | (.matched, s) => .next ((s.logEvent .xfAck0Rx 0).goTo .xfBuildFrame)
  | (.expired, s) => .next (s.raise .xf .handshakeTimeout)
  | (_, s) => .next s.block

/-- `XF_BUILD_FRAME` (R184); an index outside `pay` faults (R41, R57; log 15). -/
def execXfBuildFrame (s : State) : Host.Outcome State Fault Refusal :=
  match s.payLine with
  | some line => .next ((s.buildData line s.isLastLine).goTo .xfSendFrame)
  | none => .fault .lineIndexOutOfRange

/-- `XF_SEND_FRAME` (R185). -/
def execXfSendFrame (s : State) : Host.Outcome State Fault Refusal :=
  let s := s.sendFrame.logEvent .xfLineTx s.li
  .next ((s.load (nLine s.cfg)).goTo .xfWaitResp)

/-- `Retransmit()`, the NAKED branch of `XF_WAIT_RESP` (R188). -/
def State.retransmit (s : State) : State :=
  let s := (s.logEvent .xfLineNak s.li).sendFrame
  let s := if s.cfg.nakRestartsWindow then s.load (nLine s.cfg) else s
  s.block

/-- `XF_WAIT_RESP` (R186 to R188). In states no run reaches the increment of `li` wraps (log 14). -/
def execXfWaitResp (s : State) : Host.Outcome State Fault Refusal :=
  match s.waitRespOnce with
  | (.matched, s) =>
    let s := s.logEvent .xfLineAck s.li
    .next ({ s with li := s.li + 1 }.goTo .xfNextLine)
  | (.expired, s) => .next s.lineTimeout
  | (.naked, s) => .next s.retransmit
  | (_, s) => .next s.block

/-- `XF_DONE` (R189). -/
def execXfDone (s : State) : Host.Outcome State Fault Refusal := .next (s.goTo .cycleEnd)

end Sys2Proof.Machine
end

