-- ==== Sys2Proof/Machine/Units.lean ====
section
/-! DEFINITION. The meanings of the unit operations, format U (R72): the CRC unit (R91 to R93), the framer (R100
to R106), the recognizer (R107 to R110), the readers (R121 to R127) and the transmitter (R128, R129). An
operation that returns a result leaves it in `res` (log 6). -/

namespace Sys2Proof.Machine

/-- CRC.CLR (R92). -/
def execCrcClr (s : State) : Host.Outcome State Fault Refusal := .next s.crcClear

/-- CRC.STEP (R91). -/
def execCrcStep (b : Byte) (s : State) : Host.Outcome State Fault Refusal := .next (s.crcFeed b)

/-- CRC.FOLD (R93). -/
def execCrcFold (bytes : List Byte) (xm : Xm) (s : State) : Host.Outcome State Fault Refusal :=
  .next (s.crcFoldOver bytes xm)

/-- FRM.HS (R100); an `ident` too long for `txf` is framed whole (log 26). -/
def execFrmHs (ident : List Byte) (s : State) : Host.Outcome State Fault Refusal := .next (s.buildHeader ident)

/-- FRM.DL (R101): its result is a byte sequence. -/
def execFrmDl (bytes : List Byte) (isLast : Bool) (s : State) : Host.Outcome State Fault Refusal :=
  .next (s.answer (.bytes (withSuffix bytes isLast)))

/-- FRM.NORM (R102): its result is a byte sequence. A text longer than LINE_MAX is normalised unchecked (log 26). -/
def execFrmNorm (line : List Byte) (s : State) : Host.Outcome State Fault Refusal :=
  .next (s.answer (.bytes (normLine line)))

/-- FRM.CRC (R106); a frame already full grows past its capacity (log 26). -/
def execFrmCrc (s : State) : Host.Outcome State Fault Refusal := .next s.appendCrc

/-- FRM.DF (R105); a text longer than LINE_MAX is framed unchecked (log 26). -/
def execFrmDf (line : List Byte) (isLast : Bool) (s : State) : Host.Outcome State Fault Refusal :=
  .next (s.buildData line isLast)

/-- RCG.BYTE (R110). -/
def execRcgByte (b : Byte) (code : CtlCode) (s : State) : Host.Outcome State Fault Refusal :=
  .next (s.answer (.truth (isCtl b code)))

/-- RCG.SUFFIX (R107). -/
def execRcgSuffix (s : State) : Host.Outcome State Fault Refusal :=
  .next (s.answer (.truth (endsInSuffix s.rxbuf)))

/-- RCG.ACK (R108). -/
def execRcgAck (c0 c1 : Byte) (expected : AckNo) (s : State) : Host.Outcome State Fault Refusal :=
  .next (s.answer (.truth (isAck c0 c1 expected)))

/-- RCG.RESP (R109): it consumes nothing. -/
def execRcgResp (s : State) : Host.Outcome State Fault Refusal :=
  .next (s.answer (.resp s.classify.1 s.classify.2))

/-- The result code of one attempt and its effect. -/
def State.attempted (p : ReadResult × State) : State := p.2.answer (.code p.1)

/-- WAIT.ENQ (R121). -/
def execWaitEnq (s : State) : Host.Outcome State Fault Refusal := .next (State.attempted s.waitEnqOnce)

/-- WAIT.EOT (R122). -/
def execWaitEot (s : State) : Host.Outcome State Fault Refusal := .next (State.attempted s.waitEotOnce)

/-- WAIT.ACK (R123). -/
def execWaitAck (expected : AckNo) (s : State) : Host.Outcome State Fault Refusal :=
  .next (State.attempted (s.waitAckOnce expected))

/-- WAIT.RESP (R124). -/
def execWaitResp (s : State) : Host.Outcome State Fault Refusal := .next (State.attempted s.waitRespOnce)

/-- RD.BODY (R125). -/
def execRdBody (s : State) : Host.Outcome State Fault Refusal := .next (State.attempted s.readBodyOnce)

/-- RD.CRC (R126). -/
def execRdCrc (s : State) : Host.Outcome State Fault Refusal := .next (State.attempted s.readCrcOnce)

/-- PAUSE (R127). -/
def execPause (s : State) : Host.Outcome State Fault Refusal := .next (State.attempted s.pauseOnce)

/-- TX.CTL (R128). -/
def execTxCtl (token : Token) (s : State) : Host.Outcome State Fault Refusal := .next (s.sendToken token)

/-- TX.FRAME (R129). -/
def execTxFrame (s : State) : Host.Outcome State Fault Refusal := .next s.sendFrame

end Sys2Proof.Machine
end

