-- ==== Sys2Proof/Machine/Wire.lean ====
section
/-! DEFINITION. The meanings of the wire tokens, formats C1 and C2 (R60, R62), and of the frames, formats HF and
DF (R64, R65). A token on the wire arrives from the peer and waits for the next tick; which state recognises it
is said by the states' own rules (R68; log 2). A frame is what the engine builds and transmits (R112; log 3). -/

namespace Sys2Proof.Machine

/-- SOH (R60) arrives. -/
def execSoh (s : State) : Host.Outcome State Fault Refusal := .next (s.arrive [bSOH])

/-- STX (R60) arrives. -/
def execStx (s : State) : Host.Outcome State Fault Refusal := .next (s.arrive [bSTX])

/-- ETX (R60) arrives. -/
def execEtx (s : State) : Host.Outcome State Fault Refusal := .next (s.arrive [bETX])

/-- EOT (R60) arrives. -/
def execEot (s : State) : Host.Outcome State Fault Refusal := .next (s.arrive [bEOT])

/-- ENQ (R60) arrives. -/
def execEnq (s : State) : Host.Outcome State Fault Refusal := .next (s.arrive [bENQ])

/-- DLE (R60) arrives. -/
def execDle (s : State) : Host.Outcome State Fault Refusal := .next (s.arrive [bDLE])

/-- NAK (R60) arrives. -/
def execNak (s : State) : Host.Outcome State Fault Refusal := .next (s.arrive [bNAK])

/-- ETB (R60) arrives. -/
def execEtb (s : State) : Host.Outcome State Fault Refusal := .next (s.arrive [bETB])

/-- ACK0 (R62) arrives. -/
def execAck0 (s : State) : Host.Outcome State Fault Refusal := .next (s.arrive [bDLE, ackDigit .ack0])

/-- ACK1 (R62) arrives. -/
def execAck1 (s : State) : Host.Outcome State Fault Refusal := .next (s.arrive [bDLE, ackDigit .ack1])

/-- DLE SOH (R62) arrives. -/
def execDleSoh (s : State) : Host.Outcome State Fault Refusal := .next (s.arrive [bDLE, bSOH])

/-- DLE STX (R62) arrives. -/
def execDleStx (s : State) : Host.Outcome State Fault Refusal := .next (s.arrive [bDLE, bSTX])

/-- DLE ETX (R62) arrives. -/
def execDleEtx (s : State) : Host.Outcome State Fault Refusal := .next (s.arrive [bDLE, bETX])

/-- DLE ETB (R62) arrives. -/
def execDleEtb (s : State) : Host.Outcome State Fault Refusal := .next (s.arrive [bDLE, bETB])

/-- HF: build the header frame of an identification, its CRC over all its bytes, and transmit it (R64, R104);
a frame too long for `txf` is sent whole (log 26). -/
def execHf (ident : List Byte) (s : State) : Host.Outcome State Fault Refusal := .next (s.sendHeader ident)

/-- DF with DLE ETB: build the frame of a line that is not the last and transmit it (R65, R105);
a text longer than LINE_MAX is framed unchecked (log 26). -/
def execDfEtb (line : List Byte) (s : State) : Host.Outcome State Fault Refusal :=
  .next (s.buildData line false).sendFrame

/-- DF with DLE ETX: build the frame of the last line and transmit it (R65, R105); a text longer
than LINE_MAX is framed unchecked (log 26). -/
def execDfEtx (line : List Byte) (s : State) : Host.Outcome State Fault Refusal :=
  .next (s.buildData line true).sendFrame

end Sys2Proof.Machine
end

