-- ==== Sys2Proof/Machine/Dispatch.lean ====
section
/-! DEFINITION. The meaning of every instruction: one arm per constructor, one meaning per arm. -/

namespace Sys2Proof.Machine

def exec (i : Instr) (s : State) : Host.Outcome State Fault Refusal :=
  match i with
  | .soh => Sys2Proof.Machine.execSoh s
  | .stx => Sys2Proof.Machine.execStx s
  | .etx => Sys2Proof.Machine.execEtx s
  | .eot => Sys2Proof.Machine.execEot s
  | .enq => Sys2Proof.Machine.execEnq s
  | .dle => Sys2Proof.Machine.execDle s
  | .nak => Sys2Proof.Machine.execNak s
  | .etb => Sys2Proof.Machine.execEtb s
  | .ack0 => Sys2Proof.Machine.execAck0 s
  | .ack1 => Sys2Proof.Machine.execAck1 s
  | .dleSoh => Sys2Proof.Machine.execDleSoh s
  | .dleStx => Sys2Proof.Machine.execDleStx s
  | .dleEtx => Sys2Proof.Machine.execDleEtx s
  | .dleEtb => Sys2Proof.Machine.execDleEtb s
  | .hf ident => Sys2Proof.Machine.execHf ident s
  | .dfEtb line => Sys2Proof.Machine.execDfEtb line s
  | .dfEtx line => Sys2Proof.Machine.execDfEtx line s
  | .cycleStart => Sys2Proof.Machine.execCycleStart s
  | .h1WaitEnq => Sys2Proof.Machine.execH1WaitEnq s
  | .h1SendAck0 => Sys2Proof.Machine.execH1SendAck0 s
  | .h1Ack0Pause => Sys2Proof.Machine.execH1Ack0Pause s
  | .h1ReadBody => Sys2Proof.Machine.execH1ReadBody s
  | .h1ReadCrc => Sys2Proof.Machine.execH1ReadCrc s
  | .h1VerifyCrc => Sys2Proof.Machine.execH1VerifyCrc s
  | .h1SendAck1 => Sys2Proof.Machine.execH1SendAck1 s
  | .h1WaitEot => Sys2Proof.Machine.execH1WaitEot s
  | .h1Done => Sys2Proof.Machine.execH1Done s
  | .h2SendEnq => Sys2Proof.Machine.execH2SendEnq s
  | .h2WaitAck0 => Sys2Proof.Machine.execH2WaitAck0 s
  | .h2SendId => Sys2Proof.Machine.execH2SendId s
  | .h2WaitAck1 => Sys2Proof.Machine.execH2WaitAck1 s
  | .h2Pause => Sys2Proof.Machine.execH2Pause s
  | .h2SendEot => Sys2Proof.Machine.execH2SendEot s
  | .h2Done => Sys2Proof.Machine.execH2Done s
  | .xfNextLine => Sys2Proof.Machine.execXfNextLine s
  | .xfSendEnq => Sys2Proof.Machine.execXfSendEnq s
  | .xfWaitAck0 => Sys2Proof.Machine.execXfWaitAck0 s
  | .xfBuildFrame => Sys2Proof.Machine.execXfBuildFrame s
  | .xfSendFrame => Sys2Proof.Machine.execXfSendFrame s
  | .xfWaitResp => Sys2Proof.Machine.execXfWaitResp s
  | .xfDone => Sys2Proof.Machine.execXfDone s
  | .cycleEnd => Sys2Proof.Machine.execCycleEnd s
  | .h1Ack1Pause => Sys2Proof.Machine.execH1Ack1Pause s
  | .crcClr => Sys2Proof.Machine.execCrcClr s
  | .crcStep b => Sys2Proof.Machine.execCrcStep b s
  | .crcFold bytes xm => Sys2Proof.Machine.execCrcFold bytes xm s
  | .frmHs ident => Sys2Proof.Machine.execFrmHs ident s
  | .frmDl bytes isLast => Sys2Proof.Machine.execFrmDl bytes isLast s
  | .frmNorm line => Sys2Proof.Machine.execFrmNorm line s
  | .frmCrc => Sys2Proof.Machine.execFrmCrc s
  | .frmDf line isLast => Sys2Proof.Machine.execFrmDf line isLast s
  | .rcgByte b code => Sys2Proof.Machine.execRcgByte b code s
  | .rcgSuffix => Sys2Proof.Machine.execRcgSuffix s
  | .rcgAck c0 c1 expected => Sys2Proof.Machine.execRcgAck c0 c1 expected s
  | .rcgResp => Sys2Proof.Machine.execRcgResp s
  | .waitEnq => Sys2Proof.Machine.execWaitEnq s
  | .waitEot => Sys2Proof.Machine.execWaitEot s
  | .waitAck expected => Sys2Proof.Machine.execWaitAck expected s
  | .waitResp => Sys2Proof.Machine.execWaitResp s
  | .rdBody => Sys2Proof.Machine.execRdBody s
  | .rdCrc => Sys2Proof.Machine.execRdCrc s
  | .pause => Sys2Proof.Machine.execPause s
  | .txCtl token => Sys2Proof.Machine.execTxCtl token s
  | .txFrame => Sys2Proof.Machine.execTxFrame s

end Sys2Proof.Machine
end

