-- ==== Sys2Proof/WellFormed.lean ====
section
/-! DEFINITION. Which instructions have an encoding that reads back as them. Only the frames carry a check:
the wire has no length field and no stuffing (R67, R70), so a frame whose text holds its own end mark cannot
be told from a shorter one, and a data frame's text is a line without its CR LF (R65). -/

namespace Sys2Proof

/-- No DLE ETX stands in the bytes: the first one would end a header there (R67). -/
def noHeaderEnd : List Byte → Bool
  | a :: b :: rest => !(a == 0x10 && b == 0x03) && noHeaderEnd (b :: rest)
  | _ => true

/-- The bytes begin with a data frame's end mark: CR LF DLE, then ETX or ETB (R65). -/
def atFrameEnd : List Byte → Bool
  | a :: b :: c :: d :: _ => a == 0x0D && b == 0x0A && c == 0x10 && (d == 0x03 || d == 0x17)
  | _ => false

/-- No data frame's end mark stands in the bytes. -/
def noFrameEnd : List Byte → Bool
  | [] => true
  | a :: rest => !atFrameEnd (a :: rest) && noFrameEnd rest

/-- The bytes do not end in CR or LF: the text of R65, a line after normalisation without its CR LF. -/
def noTrailingEol (t : List Byte) : Bool :=
  match t.getLast? with
  | some b => !(b == 0x0D || b == 0x0A)
  | none => true

/-- The text of a data frame that reads back from the wire. -/
def lineTextOk (t : List Byte) : Bool :=
  noTrailingEol t && noFrameEnd t

/-- Well-formed instructions. -/
def wellFormed : Instr → Bool
  | .hf ident => noHeaderEnd ident
  | .dfEtb line => lineTextOk line
  | .dfEtx line => lineTextOk line
  | .soh | .stx | .etx | .eot | .enq | .dle | .nak | .etb => true
  | .ack0 | .ack1 | .dleSoh | .dleStx | .dleEtx | .dleEtb => true
  | .cycleStart | .h1WaitEnq | .h1SendAck0 | .h1Ack0Pause | .h1ReadBody | .h1ReadCrc | .h1VerifyCrc
  | .h1SendAck1 | .h1WaitEot | .h1Done | .h2SendEnq | .h2WaitAck0 | .h2SendId | .h2WaitAck1 | .h2Pause
  | .h2SendEot | .h2Done | .xfNextLine | .xfSendEnq | .xfWaitAck0 | .xfBuildFrame | .xfSendFrame
  | .xfWaitResp | .xfDone | .cycleEnd | .h1Ack1Pause => true
  | .crcClr | .crcStep _ | .crcFold _ _ | .frmHs _ | .frmDl _ _ | .frmNorm _ | .frmCrc | .frmDf _ _
  | .rcgByte _ _ | .rcgSuffix | .rcgAck _ _ _ | .rcgResp | .waitEnq | .waitEot | .waitAck _ | .waitResp
  | .rdBody | .rdCrc | .pause | .txCtl _ | .txFrame => true

end Sys2Proof
end

