-- ==== Sys2Proof/Decode.lean ====
section
/-! DEFINITION. The decoder, total on any bytes and rejecting by name, and after it the encoder, both written
from the encoding tables of 30_encoding.md. Each format of the table is a code space of its own (R73; log 1). -/

namespace Sys2Proof

open Sys2Proof.Machine

/-- Why bytes are no instruction of a format. -/
inductive DecodeError where
  /-- The bytes end before the instruction does. -/
  | truncated
  /-- The code is no row of the format: R69 for the sequencer codes 0x1A to 0x1F and the unit-operation codes
  0x15 to 0x1F. -/
  | reservedCode
  /-- An operand has no meaning: `xm` code 3 (R72), or a code outside an operand's range. -/
  | badOperand
  /-- A frame has no end mark (R64, R65). -/
  | noFrameEnd
  /-- A data frame's text ends in CR or LF: it is no normalised line (R65, R102). -/
  | badText
  /-- A frame's CRC field is not the CRC of its bytes (R64, R65). -/
  | badCrc
deriving DecidableEq, Repr

/-- What the decoder answers: an instruction and the bytes after it, or a rejection by name. -/
inductive Decoded where
  | ok (i : Instr) (rest : List Byte)
  | rejected (why : DecodeError)
deriving DecidableEq, Repr

/-! ### Codes of the sequencer states (R71) -/

/-- The 5-bit code of a sequencer state (R71). -/
def Seq.code : Seq → BitVec 5
  | .cycleStart => 0x00
  | .h1WaitEnq => 0x01
  | .h1SendAck0 => 0x02
  | .h1Ack0Pause => 0x03
  | .h1ReadBody => 0x04
  | .h1ReadCrc => 0x05
  | .h1VerifyCrc => 0x06
  | .h1SendAck1 => 0x07
  | .h1WaitEot => 0x08
  | .h1Done => 0x09
  | .h2SendEnq => 0x0A
  | .h2WaitAck0 => 0x0B
  | .h2SendId => 0x0C
  | .h2WaitAck1 => 0x0D
  | .h2Pause => 0x0E
  | .h2SendEot => 0x0F
  | .h2Done => 0x10
  | .xfNextLine => 0x11
  | .xfSendEnq => 0x12
  | .xfWaitAck0 => 0x13
  | .xfBuildFrame => 0x14
  | .xfSendFrame => 0x15
  | .xfWaitResp => 0x16
  | .xfDone => 0x17
  | .cycleEnd => 0x18
  | .h1Ack1Pause => 0x19

/-- The sequencer state of a 5-bit code; the codes 0x1A to 0x1F are no states (R69 d, R71). -/
def seqOfCode (c : BitVec 5) : Option Seq :=
  match c.toNat with
  | 0 => some .cycleStart
  | 1 => some .h1WaitEnq
  | 2 => some .h1SendAck0
  | 3 => some .h1Ack0Pause
  | 4 => some .h1ReadBody
  | 5 => some .h1ReadCrc
  | 6 => some .h1VerifyCrc
  | 7 => some .h1SendAck1
  | 8 => some .h1WaitEot
  | 9 => some .h1Done
  | 10 => some .h2SendEnq
  | 11 => some .h2WaitAck0
  | 12 => some .h2SendId
  | 13 => some .h2WaitAck1
  | 14 => some .h2Pause
  | 15 => some .h2SendEot
  | 16 => some .h2Done
  | 17 => some .xfNextLine
  | 18 => some .xfSendEnq
  | 19 => some .xfWaitAck0
  | 20 => some .xfBuildFrame
  | 21 => some .xfSendFrame
  | 22 => some .xfWaitResp
  | 23 => some .xfDone
  | 24 => some .cycleEnd
  | 25 => some .h1Ack1Pause
  | _ => none

/-! ### The control codes and pairs on the wire (R60, R62) -/

/-- The control code a byte stands for (R60). -/
def decodeC1 : List Byte → Decoded
  | [] => .rejected .truncated
  | b :: rest =>
    if b == bSOH then .ok .soh rest
    else if b == bSTX then .ok .stx rest
    else if b == bETX then .ok .etx rest
    else if b == bEOT then .ok .eot rest
    else if b == bENQ then .ok .enq rest
    else if b == bDLE then .ok .dle rest
    else if b == bNAK then .ok .nak rest
    else if b == bETB then .ok .etb rest
    else .rejected .reservedCode

/-- The DLE pair two bytes stand for (R62); DLE with another second byte has no meaning (R69 b). -/
def decodeC2 : List Byte → Decoded
  | a :: b :: rest =>
    if a == bDLE then
      if b == ackDigit .ack0 then .ok .ack0 rest
      else if b == ackDigit .ack1 then .ok .ack1 rest
      else if b == bSOH then .ok .dleSoh rest
      else if b == bSTX then .ok .dleStx rest
      else if b == bETX then .ok .dleEtx rest
      else if b == bETB then .ok .dleEtb rest
      else .rejected .reservedCode
    else .rejected .reservedCode
  | _ => .rejected .truncated

/-! ### Frames (R64, R65) -/

/-- Split the bytes at their first DLE ETX: what stands before it and after it (R67). -/
def splitHeader : List Byte → Option (List Byte × List Byte)
  | a :: b :: rest =>
    if a == bDLE && b == bETX then some ([], rest)
    else (splitHeader (b :: rest)).map fun p => (a :: p.1, p.2)
  | _ => none

/-- Split the bytes at their first CR LF DLE ETX or CR LF DLE ETB: the text before it, whether it ends the last
line, and what stands after it (R65). -/
def splitData : List Byte → Option (List Byte × Bool × List Byte)
  | [] => none
  | a :: rest =>
    if atFrameEnd (a :: rest) then some ([], rest.getD 2 0 == bETX, rest.drop 3)
    else (splitData rest).map fun p => (a :: p.1, p.2.1, p.2.2)

/-- A header frame: DLE SOH, the identification bytes up to the first DLE ETX, the CRC low byte first (R64). -/
def decodeHf : List Byte → Decoded
  | a :: b :: more =>
    if a == bDLE && b == bSOH then
      match splitHeader more with
      | some (ident, lo :: hi :: rest) =>
        if [lo, hi] == crcBytes (headerCrc ident) then .ok (.hf ident) rest else .rejected .badCrc
      | some _ => .rejected .truncated
      | none => .rejected .noFrameEnd
    else .rejected .reservedCode
  | _ => .rejected .truncated

/-- A data frame: DLE STX, the text up to the first end mark, the CRC low byte first; the end mark says which of
the two rows it is (R65). -/
def decodeDf : List Byte → Decoded
  | a :: b :: more =>
    if a == bDLE && b == bSTX then
      match splitData more with
      | some (text, isLast, lo :: hi :: rest) =>
        if noTrailingEol text then
          if [lo, hi] == crcBytes (dataCrc text isLast) then
            .ok (if isLast then .dfEtx text else .dfEtb text) rest
          else .rejected .badCrc
        else .rejected .badText
      | some _ => .rejected .truncated
      | none => .rejected .noFrameEnd
    else .rejected .reservedCode
  | _ => .rejected .truncated

/-! ### Operands of unit operations

R72 names the operands and gives them codes where it gives any; it has no wire form for them. The model puts
them after the code byte: a byte as itself, a code as one byte, a byte sequence as its bytes each after a 0x01,
closed by 0x00 (DESIGN CHOICE, log 4). -/

/-- A byte sequence operand. -/
def takeBytes : List Byte → Option (List Byte × List Byte)
  | [] => none
  | [z] => if z == 0x00 then some ([], []) else none
  | f :: b :: rest =>
    if f == 0x00 then some ([], b :: rest)
    else if f == 0x01 then (takeBytes rest).map fun p => (b :: p.1, p.2)
    else none

/-- An exclusion mode operand (R72). -/
def takeXm : List Byte → Option (Xm × List Byte)
  | b :: rest =>
    if b == 0 then some (.none, rest) else if b == 1 then some (.dle, rest)
    else if b == 2 then some (.dleSoh, rest) else none
  | [] => none

/-- A boolean operand: 0 false, 1 true. -/
def takeBool : List Byte → Option (Bool × List Byte)
  | b :: rest => if b == 0 then some (false, rest) else if b == 1 then some (true, rest) else none
  | [] => none

/-- A byte operand. -/
def takeByte : List Byte → Option (Byte × List Byte)
  | b :: rest => some (b, rest)
  | [] => none

/-- The awaited code of RCG.BYTE: 0 ENQ, 1 EOT, as R72 numbers the tokens. -/
def takeCtl : List Byte → Option (CtlCode × List Byte)
  | b :: rest => if b == 0 then some (.enq, rest) else if b == 1 then some (.eot, rest) else none
  | [] => none

/-- The expected acknowledgment: its number `n` (R63). -/
def takeAck : List Byte → Option (AckNo × List Byte)
  | b :: rest => if b == 0 then some (.ack0, rest) else if b == 1 then some (.ack1, rest) else none
  | [] => none

/-- The token operand: 0 ENQ, 1 EOT, 2 ACK0, 3 ACK1 (R72). -/
def takeToken : List Byte → Option (Token × List Byte)
  | b :: rest =>
    if b == 0 then some (.enq, rest) else if b == 1 then some (.eot, rest)
    else if b == 2 then some (.ack0, rest) else if b == 3 then some (.ack1, rest) else none
  | [] => none

/-- An instruction with one operand. -/
def withOperand {α : Type} (f : α → Instr) : Option (α × List Byte) → Decoded
  | some (a, rest) => .ok (f a) rest
  | none => .rejected .badOperand

/-- An instruction with two operands. -/
def withOperands {α β : Type} (f : α → β → Instr) (second : List Byte → Option (β × List Byte)) :
    Option (α × List Byte) → Decoded
  | some (a, rest) => withOperand (f a) (second rest)
  | none => .rejected .badOperand

/-! ### Sequencer codes and unit operations (R71, R72) -/

/-- A sequencer state's code: the low five bits of the byte, the row's mask 0x1F (R73; log 25). -/
def decodeSequencer : List Byte → Decoded
  | [] => .rejected .truncated
  | b :: rest =>
    match seqOfCode (b.setWidth 5) with
    | some q => .ok q.instr rest
    | none => .rejected .reservedCode

/-- A unit operation: its code in the low five bits of the byte (R73; log 25), then its operands
(log 4). -/
def decodeUnit : List Byte → Decoded
  | [] => .rejected .truncated
  | b :: rest =>
    match (b.setWidth 5 : BitVec 5).toNat with
    | 0x00 => .ok .crcClr rest
    | 0x01 => withOperand .crcStep (takeByte rest)
    | 0x02 => withOperands .crcFold takeXm (takeBytes rest)
    | 0x03 => withOperand .frmHs (takeBytes rest)
    | 0x04 => withOperands .frmDl takeBool (takeBytes rest)
    | 0x05 => withOperand .frmNorm (takeBytes rest)
    | 0x06 => .ok .frmCrc rest
    | 0x07 => withOperands .frmDf takeBool (takeBytes rest)
    | 0x08 => withOperands .rcgByte takeCtl (takeByte rest)
    | 0x09 => .ok .rcgSuffix rest
    | 0x0A =>
      match takeByte rest with
      | some (c0, more) => withOperands (.rcgAck c0) takeAck (takeByte more)
      | none => .rejected .badOperand
    | 0x0B => .ok .rcgResp rest
    | 0x0C => .ok .waitEnq rest
    | 0x0D => .ok .waitEot rest
    | 0x0E => withOperand .waitAck (takeAck rest)
    | 0x0F => .ok .waitResp rest
    | 0x10 => .ok .rdBody rest
    | 0x11 => .ok .rdCrc rest
    | 0x12 => .ok .pause rest
    | 0x13 => withOperand .txCtl (takeToken rest)
    | 0x14 => .ok .txFrame rest
    | _ => .rejected .reservedCode

/-- The decoder: the instruction that the bytes are in a format. -/
def decode : Format → List Byte → Decoded
  | .c1, bytes => decodeC1 bytes
  | .c2, bytes => decodeC2 bytes
  | .hf, bytes => decodeHf bytes
  | .df, bytes => decodeDf bytes
  | .sequencer, bytes => decodeSequencer bytes
  | .unit, bytes => decodeUnit bytes

/-! ### The bytes of a table word -/

/-- The format an opcode-table word is read in: a word of one byte in the sequencer's code space, which is what
`seq` is fetched in, a longer one as a DLE pair (log 1). -/
def tableFormat (nbits : Nat) : Format := if nbits ≤ 8 then .sequencer else .c2

/-- The bytes of an opcode-table word, first wire byte first: R62 writes it in bits 15:8. -/
def tableBytes (nbits w : Nat) : List Byte :=
  if nbits ≤ 8 then [BitVec.ofNat 8 w] else [BitVec.ofNat 8 (w / 256), BitVec.ofNat 8 w]

/-- The instruction the decoder reads from an opcode-table word. -/
def decodeTableWord (nbits w : Nat) : Option Instr :=
  match decode (tableFormat nbits) (tableBytes nbits w) with
  | .ok i _ => some i
  | .rejected _ => none

/-! ### The encoder -/

/-- A byte sequence operand (log 4). -/
def putBytes : List Byte → List Byte
  | [] => [0x00]
  | b :: rest => 0x01 :: b :: putBytes rest

/-- An exclusion mode operand (R72). -/
def xmByte : Xm → Byte
  | .none => 0
  | .dle => 1
  | .dleSoh => 2

/-- A boolean operand. -/
def boolByte : Bool → Byte
  | false => 0
  | true => 1

/-- The awaited code of RCG.BYTE. -/
def ctlCodeByte : CtlCode → Byte
  | .enq => 0
  | .eot => 1

/-- The expected acknowledgment. -/
def ackNoByte : AckNo → Byte
  | .ack0 => 0
  | .ack1 => 1

/-- The token operand (R72). -/
def tokenByte : Token → Byte
  | .enq => 0
  | .eot => 1
  | .ack0 => 2
  | .ack1 => 3

/-- The byte that carries a sequencer state's code. -/
def Seq.byte (q : Seq) : Byte := q.code.setWidth 8

/-- The encoder: the bytes of an instruction in its format. -/
def encode : Instr → List Byte
  | .soh => [bSOH]
  | .stx => [bSTX]
  | .etx => [bETX]
  | .eot => [bEOT]
  | .enq => [bENQ]
  | .dle => [bDLE]
  | .nak => [bNAK]
  | .etb => [bETB]
  | .ack0 => [bDLE, ackDigit .ack0]
  | .ack1 => [bDLE, ackDigit .ack1]
  | .dleSoh => [bDLE, bSOH]
  | .dleStx => [bDLE, bSTX]
  | .dleEtx => [bDLE, bETX]
  | .dleEtb => [bDLE, bETB]
  | .hf ident => headerFrame ident
  | .dfEtb line => dataFrame line false
  | .dfEtx line => dataFrame line true
  | .cycleStart => [Seq.cycleStart.byte]
  | .h1WaitEnq => [Seq.h1WaitEnq.byte]
  | .h1SendAck0 => [Seq.h1SendAck0.byte]
  | .h1Ack0Pause => [Seq.h1Ack0Pause.byte]
  | .h1ReadBody => [Seq.h1ReadBody.byte]
  | .h1ReadCrc => [Seq.h1ReadCrc.byte]
  | .h1VerifyCrc => [Seq.h1VerifyCrc.byte]
  | .h1SendAck1 => [Seq.h1SendAck1.byte]
  | .h1WaitEot => [Seq.h1WaitEot.byte]
  | .h1Done => [Seq.h1Done.byte]
  | .h2SendEnq => [Seq.h2SendEnq.byte]
  | .h2WaitAck0 => [Seq.h2WaitAck0.byte]
  | .h2SendId => [Seq.h2SendId.byte]
  | .h2WaitAck1 => [Seq.h2WaitAck1.byte]
  | .h2Pause => [Seq.h2Pause.byte]
  | .h2SendEot => [Seq.h2SendEot.byte]
  | .h2Done => [Seq.h2Done.byte]
  | .xfNextLine => [Seq.xfNextLine.byte]
  | .xfSendEnq => [Seq.xfSendEnq.byte]
  | .xfWaitAck0 => [Seq.xfWaitAck0.byte]
  | .xfBuildFrame => [Seq.xfBuildFrame.byte]
  | .xfSendFrame => [Seq.xfSendFrame.byte]
  | .xfWaitResp => [Seq.xfWaitResp.byte]
  | .xfDone => [Seq.xfDone.byte]
  | .cycleEnd => [Seq.cycleEnd.byte]
  | .h1Ack1Pause => [Seq.h1Ack1Pause.byte]
  | .crcClr => [0x00]
  | .crcStep b => [0x01, b]
  | .crcFold bytes xm => 0x02 :: (putBytes bytes ++ [xmByte xm])
  | .frmHs ident => 0x03 :: putBytes ident
  | .frmDl bytes isLast => 0x04 :: (putBytes bytes ++ [boolByte isLast])
  | .frmNorm line => 0x05 :: putBytes line
  | .frmCrc => [0x06]
  | .frmDf line isLast => 0x07 :: (putBytes line ++ [boolByte isLast])
  | .rcgByte b code => [0x08, b, ctlCodeByte code]
  | .rcgSuffix => [0x09]
  | .rcgAck c0 c1 expected => [0x0A, c0, c1, ackNoByte expected]
  | .rcgResp => [0x0B]
  | .waitEnq => [0x0C]
  | .waitEot => [0x0D]
  | .waitAck expected => [0x0E, ackNoByte expected]
  | .waitResp => [0x0F]
  | .rdBody => [0x10]
  | .rdCrc => [0x11]
  | .pause => [0x12]
  | .txCtl token => [0x13, tokenByte token]
  | .txFrame => [0x14]

end Sys2Proof
end

