-- ==== Sys2Proof/Machine/Fetch.lean ====
section
/-! DEFINITION. Where the next instruction comes from: the code of `seq`, the engine's program counter (R28,
R31), or the bytes put before the machine through `port` (log 5). -/

namespace Sys2Proof.Machine

/-- The format and bytes of the next instruction: `port` when it holds one, else the code of `seq`. -/
def State.fetch (s : State) : PortWord :=
  match s.port with
  | some w => w
  | none => ⟨.sequencer, [s.seq.byte]⟩

/-- The state the fetched instruction runs in: `port` is used up. -/
def State.fetched (s : State) : State := { s with port := none }

/-- The machine waits for its environment: no instruction is put before it and the last state blocked (R31). -/
def State.idling (s : State) : Bool := s.port.isNone && s.phase == .waiting

/-- A sequencer code that is no state, forced into the machine: it behaves as `CYCLE_END` (R69 d, D27; log 21). -/
def forcedCode (w : PortWord) : Bool :=
  match w.format, w.bytes with
  | .sequencer, _ :: _ => true
  | _, _ => false

/-- The instruction the fetched bytes are; none where they are none. -/
def resolve (w : PortWord) : Option Instr :=
  match decode w.format w.bytes with
  | .ok i _ => some i
  | .rejected _ => if forcedCode w then some .cycleEnd else none

/-- Put an opcode-table word where the next step fetches: a state's code in `seq`, inside a tick; any other word
in `port` (log 1, log 5). -/
def State.placeWord (s : State) (nbits w : Nat) : State :=
  match tableFormat nbits, seqOfCode (BitVec.ofNat 5 w) with
  | .sequencer, some q => { s with seq := q, phase := .running, port := none }
  | f, _ => { s with port := some ⟨f, tableBytes nbits w⟩ }

end Sys2Proof.Machine
end

