-- ==== Sys2Proof/Machine/Step.lean ====
section
/-! DEFINITION. One step of the machine: an action of the environment while the engine waits, else the next
instruction, fetched, decoded and run (R30, R31; log 8). -/

namespace Sys2Proof.Machine

/-- Run the fetched instruction. -/
def runFetched (w : PortWord) (s : State) : Host.Outcome State Fault Refusal :=
  match resolve w with
  | some i => exec i s
  | none => .refused .reservedEncoding

/-- One step. A configuration outside R9's types is refused (I2, I7). -/
def step (s : State) : Host.Outcome State Fault Refusal :=
  if legalParams s.cfg then
    if s.idling then .next s.environment else runFetched s.fetch s.fetched
  else .refused .illegalParameters

/-- `s` with an opcode-table word placed where `step` fetches its next instruction. -/
def State.withFetchWord (s : State) (nbits w : Nat) : State := s.placeWord nbits w

end Sys2Proof.Machine
end

