-- ==== Sys2Proof/Safety.lean ====
section
/-! DEFINITION. What counts as a safe run, in the terms the statements use: the invariants of the engine, the
transition table of R202, and what the environment must be for them. -/

namespace Sys2Proof.Machine

/-- No instruction is put before the machine from outside: the engine runs its own sequence of states (log 5). -/
def State.undisturbed (s : State) : Prop := s.port = none

/-- The buffers stay within their capacities (R23, R24, R25). -/
def State.buffersFit (s : State) : Prop :=
  s.rxbuf.length ≤ s.cfg.bodyMax ∧ s.txf.length ≤ max 23 (s.cfg.lineMax + 8) ∧ payloadLegal s.cfg s.pay = true

/-- `STATUS` holds no value R32 lists as never written, nor H2_OUT PROTOCOL_ERROR, which no state of handshake 2
raises (R162, R164, R221). -/
def State.statusLegal (s : State) : Prop :=
  reservedField s.status = 0 ∧ h2Out s.status ≠ 2 ∧ xfOut s.status ≠ 2 ∧ errField s.status ≤ 4

/-- The states in which a line is being transferred. -/
def inLine (q : Seq) : Bool :=
  q == .xfSendEnq || q == .xfWaitAck0 || q == .xfBuildFrame || q == .xfSendFrame || q == .xfWaitResp

/-- The line index stays inside `pay` (R26, R41) and no more lines are abandoned than were taken (R33). -/
def State.lineIndexFits (s : State) : Prop :=
  s.pay.length ≤ s.cfg.nlinesMax ∧ s.li.toNat ≤ s.pay.length ∧ s.skipped.toNat ≤ s.li.toNat ∧
    (inLine s.seq = true → s.li.toNat < s.pay.length)

/-- The states of handshake 2. -/
def inH2 (q : Seq) : Bool :=
  q == .h2SendEnq || q == .h2WaitAck0 || q == .h2SendId || q == .h2WaitAck1 || q == .h2Pause || q == .h2SendEot
    || q == .h2Done

/-- The states of the transfer. -/
def inXf (q : Seq) : Bool :=
  q == .xfNextLine || inLine q || q == .xfDone

/-- A stage runs only after the one before it succeeded (R200). -/
def State.stagesInOrder (s : State) : Prop :=
  (inH2 s.seq = true → h1Out s.status = 1) ∧
    (inXf s.seq = true → h1Out s.status = 1 ∧ h2Out s.status = 1)

/-- The timer holds no more than the largest load of this configuration (R27, R130). -/
def State.timerBounded (s : State) : Prop :=
  s.tmr.toNat ≤ max (nEnq s.cfg).toNat (nRxb s.cfg).toNat

/-- `H1_ACK1_PAUSE` is entered only under `PAUSE_AFTER_ACK1` (R150). -/
def State.ack1PauseAllowed (s : State) : Prop :=
  s.seq = .h1Ack1Pause → s.cfg.pauseAfterAck1 = true

/-- The timed states: those that can block (R16, R71). -/
def timedState (q : Seq) : Bool :=
  q == .h1WaitEnq || q == .h1Ack0Pause || q == .h1ReadBody || q == .h1ReadCrc || q == .h1WaitEot
    || q == .h2WaitAck0 || q == .h2WaitAck1 || q == .h2Pause || q == .xfWaitAck0 || q == .xfWaitResp
    || q == .h1Ack1Pause

/-- The successors of a state other than itself: the columns "ok" and "fail" of R202. -/
def successors : Seq → List Seq
  | .cycleStart => [.h1WaitEnq]
  | .h1WaitEnq => [.h1SendAck0, .h1Done]
  | .h1SendAck0 => [.h1Ack0Pause]
  | .h1Ack0Pause => [.h1ReadBody]
  | .h1ReadBody => [.h1ReadCrc, .h1Done]
  | .h1ReadCrc => [.h1VerifyCrc, .h1Done]
  | .h1VerifyCrc => [.h1SendAck1, .h1Done]
  | .h1SendAck1 => [.h1WaitEot, .h1Ack1Pause]
  | .h1Ack1Pause => [.h1WaitEot]
  | .h1WaitEot => [.h1Done]
  | .h1Done => [.h2SendEnq, .cycleEnd]
  | .h2SendEnq => [.h2WaitAck0]
  | .h2WaitAck0 => [.h2SendId, .h2Done]
  | .h2SendId => [.h2WaitAck1]
  | .h2WaitAck1 => [.h2Pause, .h2Done]
  | .h2Pause => [.h2SendEot]
  | .h2SendEot => [.h2Done]
  | .h2Done => [.xfNextLine, .cycleEnd]
  | .xfNextLine => [.xfSendEnq, .xfBuildFrame, .xfDone]
  | .xfSendEnq => [.xfWaitAck0]
  | .xfWaitAck0 => [.xfBuildFrame, .xfDone]
  | .xfBuildFrame => [.xfSendFrame]
  | .xfSendFrame => [.xfWaitResp]
  | .xfWaitResp => [.xfNextLine]
  | .xfDone => [.cycleEnd]
  | .cycleEnd => [.cycleStart]

/-- The peer is silent from here on: nothing waits to be read, nothing is on its way, and the environment's
coming actions are ticks only (log 7). -/
def State.silent (s : State) : Prop := s.rxq = [] ∧ s.arr = [] ∧ s.inputs = [] ∧ s.recurring = []

/-- The peer sends a NAK before every `gap`-th tick from here on, and nothing else (R279; log 7). -/
def State.nakEvery (s : State) (gap : Nat) : Prop :=
  s.rxq = [] ∧ s.arr = [] ∧ s.inputs = [] ∧ s.recurring = .arrive [0x15] :: List.replicate gap .tick

end Sys2Proof.Machine
end

