-- ==== Sys2Proof/Certificates/Slice0/Obligations.lean ====
section
/-! DEFINITION. The statements about the model. In a state's rule, `phase` is the answer of `Exec`: `running` for
`Continue`, `waiting` for `Block` (R31). The number of the current tick is `s.ticks - 1`, ticks being counted from 0
(R13). A timer load is written out as R9 computes it. -/

open Sys2Proof Sys2Proof.Machine

/-! ### Wire tokens and frames -/

/-- A control code (R60) or a DLE pair (R62) arrives from the peer: its bytes, and nothing else, join the bytes
the next tick will deliver (R30). That an instruction of the formats C1 and C2 is an arrival is the model's
reading: log 2. -/
def Obligations.ControlCodesAndPairsArrive : Prop :=
  ∀ s : State,
    exec .soh s = .next { s with arr := s.arr ++ [0x01] } ∧
    exec .stx s = .next { s with arr := s.arr ++ [0x02] } ∧
    exec .etx s = .next { s with arr := s.arr ++ [0x03] } ∧
    exec .eot s = .next { s with arr := s.arr ++ [0x04] } ∧
    exec .enq s = .next { s with arr := s.arr ++ [0x05] } ∧
    exec .dle s = .next { s with arr := s.arr ++ [0x10] } ∧
    exec .nak s = .next { s with arr := s.arr ++ [0x15] } ∧
    exec .etb s = .next { s with arr := s.arr ++ [0x17] } ∧
    exec .ack0 s = .next { s with arr := s.arr ++ [0x10, 0x30] } ∧
    exec .ack1 s = .next { s with arr := s.arr ++ [0x10, 0x31] } ∧
    exec .dleSoh s = .next { s with arr := s.arr ++ [0x10, 0x01] } ∧
    exec .dleStx s = .next { s with arr := s.arr ++ [0x10, 0x02] } ∧
    exec .dleEtx s = .next { s with arr := s.arr ++ [0x10, 0x03] } ∧
    exec .dleEtb s = .next { s with arr := s.arr ++ [0x10, 0x17] }

/-- The frames of R64 and R65, byte by byte, with their CRC rules (R103): built in `txf`, the CRC left in `crc`,
and transmitted. A line is `t ++ e` with `e` the CR and LF bytes that R102 removes. That an instruction of the
formats HF and DF builds and transmits is the model's reading: log 3. A frame longer than the capacity of `txf` is built
and sent whole: log 26. -/
def Obligations.FramesAreBuiltAndSent : Prop :=
  (∀ (s : State) (ident : List Byte),
    let c := crcOf .none ([0x10, 0x01] ++ ident ++ [0x10, 0x03])
    let f := [0x10, 0x01] ++ ident ++ [0x10, 0x03] ++ [BitVec.ofNat 8 c.toNat, BitVec.ofNat 8 (c.toNat / 256)]
    exec (.hf ident) s
      = .next { s with crc := c, txf := f, txs := s.txs ++ f.map fun b => (s.ticks - 1, b) }) ∧
  (∀ (s : State) (t e : List Byte), noTrailingEol t = true → (∀ b ∈ e, b = 0x0D ∨ b = 0x0A) →
    let c := crcOf .dle (t ++ [0x0D, 0x0A, 0x10, 0x17])
    let f := [0x10, 0x02] ++ t ++ [0x0D, 0x0A, 0x10, 0x17]
      ++ [BitVec.ofNat 8 c.toNat, BitVec.ofNat 8 (c.toNat / 256)]
    exec (.dfEtb (t ++ e)) s
      = .next { s with crc := c, txf := f, txs := s.txs ++ f.map fun b => (s.ticks - 1, b) }) ∧
  (∀ (s : State) (t e : List Byte), noTrailingEol t = true → (∀ b ∈ e, b = 0x0D ∨ b = 0x0A) →
    let c := crcOf .dle (t ++ [0x0D, 0x0A, 0x10, 0x03])
    let f := [0x10, 0x02] ++ t ++ [0x0D, 0x0A, 0x10, 0x03]
      ++ [BitVec.ofNat 8 c.toNat, BitVec.ofNat 8 (c.toNat / 256)]
    exec (.dfEtx (t ++ e)) s
      = .next { s with crc := c, txf := f, txs := s.txs ++ f.map fun b => (s.ticks - 1, b) })

/-! ### The CRC unit -/

/-- CRC.STEP, bit by bit (R91): eight iterations from `crc`, input bit `j` of the byte in iteration `j`; the
bit-0 feedback goes to bit 15, the bit-14 feedback to bit 13, the bit-1 feedback to bit 0, every other bit comes
from the bit above it. Only `crc` is written. -/
def Obligations.CrcStepFollowsWiring : Prop :=
  ∀ (s : State) (b : Byte), ∃ t : Nat → Word,
    t 0 = s.crc ∧
    (∀ j, j < 8 → ∀ k, k < 16 →
      (t (j + 1)).getLsbD k =
        (if k = 15 then (t j).getLsbD 0 ^^ b.getLsbD j
         else if k = 13 then (t j).getLsbD 14 ^^ ((t j).getLsbD 0 ^^ b.getLsbD j)
         else if k = 0 then (t j).getLsbD 1 ^^ ((t j).getLsbD 0 ^^ b.getLsbD j)
         else (t j).getLsbD (k + 1))) ∧
    exec (.crcStep b) s = .next { s with crc := t 8 }

/-- The equivalent form of CRC.STEP that R97 derives: the byte joined by exclusive or, then eight times a shift
with a conditional exclusive or of 0xA001. -/
def Obligations.CrcStepIsConditionalXor : Prop :=
  ∀ (s : State) (b : Byte),
    exec (.crcStep b) s = .next { s with
      crc := (fun x : Word => (x >>> 1) ^^^ (if x.getLsbD 0 then 0xA001 else 0x0000))^[8]
        (s.crc ^^^ b.setWidth 16) }

/-- CRC.STEP is linear over exclusive or (R91, derived there). -/
def Obligations.CrcStepLinear : Prop :=
  ∀ (s1 s2 : Word) (b1 b2 : Byte), crcByte (s1 ^^^ s2) (b1 ^^^ b2) = crcByte s1 b1 ^^^ crcByte s2 b2

/-- CRC.CLR (R92) and CRC.FOLD under its three exclusion modes (R93): an excluded byte is skipped as if it were not
in the sequence. Only `crc` is written. -/
def Obligations.CrcFoldSkipsExcludedBytes : Prop :=
  ∀ (s : State) (bytes : List Byte),
    exec .crcClr s = .next { s with crc := 0x0000 } ∧
    exec (.crcFold bytes .none) s = .next { s with crc := bytes.foldl crcByte 0x0000 } ∧
    exec (.crcFold bytes .dle) s
      = .next { s with crc := (bytes.filter fun b => b != 0x10).foldl crcByte 0x0000 } ∧
    exec (.crcFold bytes .dleSoh) s
      = .next { s with crc := (bytes.filter fun b => b != 0x10 && b != 0x01).foldl crcByte 0x0000 }

/-! ### The framer -/

/-- FRM.NORM (R102): whatever CR and LF bytes end the line, exactly one CR LF replaces them and the text before
them is kept. The result is left in the model's result field (log 6). A text longer than LINE_MAX is not checked: the
model's choice (log 26). -/
def Obligations.NormalisedLineEndsInOneCrLf : Prop :=
  ∀ (s : State) (t e : List Byte), noTrailingEol t = true → (∀ b ∈ e, b = 0x0D ∨ b = 0x0A) →
    exec (.frmNorm (t ++ e)) s = .next { s with res := .bytes (t ++ [0x0D, 0x0A]) }

/-- FRM.HS, FRM.DL and FRM.CRC (R100, R101, R106): the body of a header in `txf`; a line with its end mark, left
in the model's result field (log 6); the CRC appended low byte first. A frame longer than the capacity of `txf` is kept
whole: the model's choice (log 26). -/
def Obligations.FramerOperations : Prop :=
  ∀ (s : State) (bytes : List Byte),
    exec (.frmHs bytes) s = .next { s with txf := [0x10, 0x01] ++ bytes ++ [0x10, 0x03] } ∧
    exec (.frmDl bytes true) s = .next { s with res := .bytes (bytes ++ [0x10, 0x03]) } ∧
    exec (.frmDl bytes false) s = .next { s with res := .bytes (bytes ++ [0x10, 0x17]) } ∧
    exec .frmCrc s = .next { s with
      txf := s.txf ++ [BitVec.ofNat 8 s.crc.toNat, BitVec.ofNat 8 (s.crc.toNat / 256)] }

/-- FRM.DF (R105): prefix, normalised line, end mark, CRC low byte first; the CRC is folded over text, CR LF and
end mark with every DLE skipped and the prefix left out. Only `txf` and `crc` are written. For a text longer than
LINE_MAX, which R102 rules out, the same frame is built: the model's choice (log 26). -/
def Obligations.DataFrameBuilt : Prop :=
  ∀ (s : State) (t e : List Byte) (isLast : Bool),
    noTrailingEol t = true → (∀ b ∈ e, b = 0x0D ∨ b = 0x0A) →
    let body := t ++ [0x0D, 0x0A, 0x10, if isLast then 0x03 else 0x17]
    let c := (body.filter fun b => b != 0x10).foldl crcByte 0x0000
    exec (.frmDf (t ++ e) isLast) s = .next { s with
      crc := c
      txf := [0x10, 0x02] ++ body ++ [BitVec.ofNat 8 c.toNat, BitVec.ofNat 8 (c.toNat / 256)] }

/-! ### The recognizer -/

/-- RCG.BYTE and RCG.ACK (R108, R110) compare every bit. The result is left in the model's result field (log 6). -/
def Obligations.RecognizerCompares : Prop :=
  ∀ (s : State) (b c0 c1 : Byte),
    exec (.rcgByte b .enq) s = .next { s with res := .truth (decide (b = 0x05)) } ∧
    exec (.rcgByte b .eot) s = .next { s with res := .truth (decide (b = 0x04)) } ∧
    exec (.rcgAck c0 c1 .ack0) s = .next { s with res := .truth (decide (c0 = 0x10 ∧ c1 = 0x30)) } ∧
    exec (.rcgAck c0 c1 .ack1) s = .next { s with res := .truth (decide (c0 = 0x10 ∧ c1 = 0x31)) }

/-- RCG.SUFFIX (R107) answers whether `rxbuf` ends in DLE ETX. The result is left in the model's result field
(log 6). -/
def Obligations.SuffixRecognised : Prop :=
  ∀ s : State, ∃ b : Bool,
    exec .rcgSuffix s = .next { s with res := .truth b } ∧ (b = true ↔ ∃ front, s.rxbuf = front ++ [0x10, 0x03])

/-- RCG.RESP (R109): the class of the front of RXQ and the bytes it takes; nothing is consumed. The result is
left in the model's result field (log 6). -/
def Obligations.ResponseClassified : Prop :=
  ∀ (s : State) (a b : Byte) (more : List Byte),
    (s.rxq = [] → exec .rcgResp s = .next { s with res := .resp .none 0 }) ∧
    (s.rxq = 0x15 :: more → exec .rcgResp s = .next { s with res := .resp .nak 1 }) ∧
    (s.rxq = [a] → a ≠ 0x15 → exec .rcgResp s = .next { s with res := .resp .none 0 }) ∧
    (s.rxq = 0x10 :: b :: more → b = 0x30 ∨ b = 0x31 → exec .rcgResp s = .next { s with res := .resp .ack 2 }) ∧
    (s.rxq = a :: b :: more → a ≠ 0x15 → ¬(a = 0x10 ∧ (b = 0x30 ∨ b = 0x31)) →
      exec .rcgResp s = .next { s with res := .resp .noise 2 })

/-! ### Readers, pause, transmitter -/

/-- WAIT.ENQ and WAIT.EOT (R121, R122): the deadline first; one attempt counts `tmr` down and takes at most one
byte. The result code is left in the model's result field (log 6). -/
def Obligations.WaitForControlByte : Prop :=
  ∀ (i : Instr) (code : Byte), (i, code) ∈ [(Instr.waitEnq, (0x05 : Byte)), (.waitEot, 0x04)] →
  ∀ (s : State) (b : Byte) (more : List Byte),
    (s.tmr = 0 → exec i s = .next { s with res := .code .expired }) ∧
    (s.tmr ≠ 0 → s.rxq = [] → exec i s = .next { s with tmr := s.tmr - 1, res := .code .pending }) ∧
    (s.tmr ≠ 0 → s.rxq = code :: more →
      exec i s = .next { s with tmr := s.tmr - 1, rxq := more, res := .code .matched }) ∧
    (s.tmr ≠ 0 → s.rxq = b :: more → b ≠ code →
      exec i s = .next { s with tmr := s.tmr - 1, rxq := more, res := .code .pending })

/-- WAIT.ACK (R123): the deadline first; a chunk is taken only when two bytes are there, and a chunk that does
not match is lost. The result code is left in the model's result field (log 6). -/
def Obligations.WaitForAck : Prop :=
  ∀ (n : AckNo) (digit : Byte), (n, digit) ∈ [(AckNo.ack0, (0x30 : Byte)), (.ack1, 0x31)] →
  ∀ (s : State) (a b : Byte) (more : List Byte),
    (s.tmr = 0 → exec (.waitAck n) s = .next { s with res := .code .expired }) ∧
    (s.tmr ≠ 0 → s.rxq.length < 2 →
      exec (.waitAck n) s = .next { s with tmr := s.tmr - 1, res := .code .pending }) ∧
    (s.tmr ≠ 0 → s.rxq = 0x10 :: digit :: more →
      exec (.waitAck n) s = .next { s with tmr := s.tmr - 1, rxq := more, res := .code .matched }) ∧
    (s.tmr ≠ 0 → s.rxq = a :: b :: more → ¬(a = 0x10 ∧ b = digit) →
      exec (.waitAck n) s = .next { s with tmr := s.tmr - 1, rxq := more, res := .code .pending })

/-- WAIT.RESP (R124): the deadline first; at most one token is taken. The result code is left in the model's
result field (log 6). -/
def Obligations.WaitForResponse : Prop :=
  ∀ (s : State) (a b : Byte) (more : List Byte),
    (s.tmr = 0 → exec .waitResp s = .next { s with res := .code .expired }) ∧
    (s.tmr ≠ 0 → s.rxq = [] → exec .waitResp s = .next { s with tmr := s.tmr - 1, res := .code .pending }) ∧
    (s.tmr ≠ 0 → s.rxq = 0x15 :: more →
      exec .waitResp s = .next { s with tmr := s.tmr - 1, rxq := more, res := .code .naked }) ∧
    (s.tmr ≠ 0 → s.rxq = [a] → a ≠ 0x15 →
      exec .waitResp s = .next { s with tmr := s.tmr - 1, res := .code .pending }) ∧
    (s.tmr ≠ 0 → s.rxq = 0x10 :: b :: more → b = 0x30 ∨ b = 0x31 →
      exec .waitResp s = .next { s with tmr := s.tmr - 1, rxq := more, res := .code .matched }) ∧
    (s.tmr ≠ 0 → s.rxq = a :: b :: more → a ≠ 0x15 → ¬(a = 0x10 ∧ (b = 0x30 ∨ b = 0x31)) →
      exec .waitResp s = .next { s with tmr := s.tmr - 1, rxq := more, res := .code .pending })

/-- RD.BODY (R125): the bound first, then the data, then the timer; a stored byte reloads the timer and completes
the body when it makes `rxbuf` end in DLE ETX. The result code is left in the model's result field (log 6). -/
def Obligations.BodyReadOneByte : Prop :=
  ∀ (s : State) (b : Byte) (more : List Byte),
    (s.rxbuf.length = s.cfg.bodyMax → exec .rdBody s = .next { s with res := .code .overflow }) ∧
    (s.rxbuf.length ≠ s.cfg.bodyMax → s.rxq = [] → s.tmr = 0 →
      exec .rdBody s = .next { s with res := .code .expired }) ∧
    (s.rxbuf.length ≠ s.cfg.bodyMax → s.rxq = [] → s.tmr ≠ 0 →
      exec .rdBody s = .next { s with tmr := s.tmr - 1, res := .code .pending }) ∧
    (s.rxbuf.length ≠ s.cfg.bodyMax → s.rxq = b :: more → (∃ front, s.rxbuf ++ [b] = front ++ [0x10, 0x03]) →
      exec .rdBody s = .next { s with
        rxq := more, rxbuf := s.rxbuf ++ [b], tmr := BitVec.ofNat 32 (s.cfg.tRxbyteMs / s.cfg.tPollMs)
        res := .code .matched }) ∧
    (s.rxbuf.length ≠ s.cfg.bodyMax → s.rxq = b :: more → (¬∃ front, s.rxbuf ++ [b] = front ++ [0x10, 0x03]) →
      exec .rdBody s = .next { s with
        rxq := more, rxbuf := s.rxbuf ++ [b], tmr := BitVec.ofNat 32 (s.cfg.tRxbyteMs / s.cfg.tPollMs)
        res := .code .more })

/-- RD.CRC and PAUSE (R126, R127): two bytes make the received CRC, the first one low, before the timer is looked
at; a pause counts the timer down and ends at 0. The result code is left in the model's result field (log 6). -/
def Obligations.CrcReadAndPause : Prop :=
  ∀ (s : State) (b0 b1 : Byte) (more : List Byte),
    (s.rxq = b0 :: b1 :: more → exec .rdCrc s = .next { s with
        rxq := more, rxcrc := BitVec.ofNat 16 (b0.toNat + 256 * b1.toNat), res := .code .matched }) ∧
    (s.rxq.length < 2 → s.tmr = 0 → exec .rdCrc s = .next { s with res := .code .expired }) ∧
    (s.rxq.length < 2 → s.tmr ≠ 0 →
      exec .rdCrc s = .next { s with tmr := s.tmr - 1, res := .code .pending }) ∧
    (s.tmr = 0 → exec .pause s = .next { s with res := .code .matched }) ∧
    (s.tmr ≠ 0 → exec .pause s = .next { s with tmr := s.tmr - 1, res := .code .pending })

/-- TX.CTL and TX.FRAME (R128, R129): the token's bytes, or the frame register's, join TXS with the current tick's
stamp; nothing else changes, `txf` included. -/
def Obligations.TransmitAppends : Prop :=
  ∀ s : State,
    exec (.txCtl .enq) s = .next { s with txs := s.txs ++ [(s.ticks - 1, 0x05)] } ∧
    exec (.txCtl .eot) s = .next { s with txs := s.txs ++ [(s.ticks - 1, 0x04)] } ∧
    exec (.txCtl .ack0) s = .next { s with txs := s.txs ++ [(s.ticks - 1, 0x10), (s.ticks - 1, 0x30)] } ∧
    exec (.txCtl .ack1) s = .next { s with txs := s.txs ++ [(s.ticks - 1, 0x10), (s.ticks - 1, 0x31)] } ∧
    exec .txFrame s = .next { s with txs := s.txs ++ s.txf.map fun b => (s.ticks - 1, b) }

/-! ### Handshake 1 -/

/-- `H1_WAIT_ENQ` (R141): match, expiry, and the two ways of waiting on, with everything each changes. -/
def Obligations.H1WaitEnqRule : Prop :=
  ∀ (s : State) (b : Byte) (more : List Byte),
    (s.tmr = 0 → exec .h1WaitEnq s = .next { s with
        status := (s.status &&& 0xFE3C) ||| 0x0043, log := s.log ++ [⟨s.ticks - 1, .h1Fail, 1⟩]
        seq := .h1Done, phase := .running }) ∧
    (s.tmr ≠ 0 → s.rxq = [] → exec .h1WaitEnq s = .next { s with tmr := s.tmr - 1, phase := .waiting }) ∧
    (s.tmr ≠ 0 → s.rxq = 0x05 :: more → exec .h1WaitEnq s = .next { s with
        tmr := s.tmr - 1, rxq := more, log := s.log ++ [⟨s.ticks - 1, .h1EnqRx, 0⟩]
        seq := .h1SendAck0, phase := .running }) ∧
    (s.tmr ≠ 0 → s.rxq = b :: more → b ≠ 0x05 →
      exec .h1WaitEnq s = .next { s with tmr := s.tmr - 1, rxq := more, phase := .waiting })

/-- The states that send a bare token: `H1_SEND_ACK0` (R142), `H1_SEND_ACK1` (R147), `H2_SEND_ENQ` (R161),
`H2_SEND_EOT` (R166), `XF_SEND_ENQ` (R182). -/
def Obligations.TokenSendingStates : Prop :=
  ∀ s : State,
    exec .h1SendAck0 s = .next { s with
      txs := s.txs ++ [(s.ticks - 1, 0x10), (s.ticks - 1, 0x30)]
      log := s.log ++ [⟨s.ticks - 1, .h1Ack0Tx, 0⟩], tmr := BitVec.ofNat 32 (50 / s.cfg.tPollMs)
      seq := .h1Ack0Pause, phase := .running } ∧
    (s.cfg.pauseAfterAck1 = false → exec .h1SendAck1 s = .next { s with
      txs := s.txs ++ [(s.ticks - 1, 0x10), (s.ticks - 1, 0x31)]
      log := s.log ++ [⟨s.ticks - 1, .h1Ack1Tx, 0⟩], tmr := BitVec.ofNat 32 (5000 / s.cfg.tPollMs)
      seq := .h1WaitEot, phase := .running }) ∧
    (s.cfg.pauseAfterAck1 = true → exec .h1SendAck1 s = .next { s with
      txs := s.txs ++ [(s.ticks - 1, 0x10), (s.ticks - 1, 0x31)]
      log := s.log ++ [⟨s.ticks - 1, .h1Ack1Tx, 0⟩], tmr := BitVec.ofNat 32 (50 / s.cfg.tPollMs)
      seq := .h1Ack1Pause, phase := .running }) ∧
    exec .h2SendEnq s = .next { s with
      txs := s.txs ++ [(s.ticks - 1, 0x05)]
      log := s.log ++ [⟨s.ticks - 1, .h2EnqTx, 0⟩], tmr := BitVec.ofNat 32 (5000 / s.cfg.tPollMs)
      seq := .h2WaitAck0, phase := .running } ∧
    exec .h2SendEot s = .next { s with
      txs := s.txs ++ [(s.ticks - 1, 0x04)], status := (s.status &&& 0xFFF3) ||| 0x0004
      log := s.log ++ [⟨s.ticks - 1, .h2EotTx, 0⟩, ⟨s.ticks - 1, .h2Ok, 0⟩]
      seq := .h2Done, phase := .running } ∧
    exec .xfSendEnq s = .next { s with
      txs := s.txs ++ [(s.ticks - 1, 0x05)]
      log := s.log ++ [⟨s.ticks - 1, .xfEnqTx, 0⟩], tmr := BitVec.ofNat 32 (5000 / s.cfg.tPollMs)
      seq := .xfWaitAck0, phase := .running }

/-- The pauses: `H1_ACK0_PAUSE` (R143), `H1_ACK1_PAUSE` (R150), `H2_PAUSE` (R165). -/
def Obligations.PauseStates : Prop :=
  ∀ s : State,
    (s.tmr ≠ 0 →
      exec .h1Ack0Pause s = .next { s with tmr := s.tmr - 1, phase := .waiting } ∧
      exec .h1Ack1Pause s = .next { s with tmr := s.tmr - 1, phase := .waiting } ∧
      exec .h2Pause s = .next { s with tmr := s.tmr - 1, phase := .waiting }) ∧
    (s.tmr = 0 →
      exec .h1Ack0Pause s = .next { s with
        rxbuf := [], tmr := BitVec.ofNat 32 (s.cfg.tRxbyteMs / s.cfg.tPollMs)
        seq := .h1ReadBody, phase := .running } ∧
      exec .h1Ack1Pause s = .next { s with
        tmr := BitVec.ofNat 32 (5000 / s.cfg.tPollMs), seq := .h1WaitEot, phase := .running } ∧
      exec .h2Pause s = .next { s with seq := .h2SendEot, phase := .running })

/-- `H1_READ_BODY` (R144): the body complete, a byte stored, idle time left, idle time over, buffer full. The
argument of `EV_H1_BODY_RX` is `|rxbuf|` where it fits 16 bits; for a longer body the statement says nothing of
the argument's value (log 9). -/
def Obligations.H1ReadBodyRule : Prop :=
  ∀ (s : State) (b : Byte) (more : List Byte),
    (s.rxbuf.length = s.cfg.bodyMax → exec .h1ReadBody s = .next { s with
        status := (s.status &&& 0xFE3C) ||| 0x00C2, log := s.log ++ [⟨s.ticks - 1, .h1Fail, 3⟩]
        seq := .h1Done, phase := .running }) ∧
    (s.rxbuf.length ≠ s.cfg.bodyMax → s.rxq = [] → s.tmr = 0 → exec .h1ReadBody s = .next { s with
        status := (s.status &&& 0xFE3C) ||| 0x00C2, log := s.log ++ [⟨s.ticks - 1, .h1Fail, 3⟩]
        seq := .h1Done, phase := .running }) ∧
    (s.rxbuf.length ≠ s.cfg.bodyMax → s.rxq = [] → s.tmr ≠ 0 →
      exec .h1ReadBody s = .next { s with tmr := s.tmr - 1, phase := .waiting }) ∧
    (s.rxbuf.length ≠ s.cfg.bodyMax → s.rxq = b :: more → (¬∃ front, s.rxbuf ++ [b] = front ++ [0x10, 0x03]) →
      exec .h1ReadBody s = .next { s with
        rxq := more, rxbuf := s.rxbuf ++ [b], tmr := BitVec.ofNat 32 (s.cfg.tRxbyteMs / s.cfg.tPollMs)
        phase := .running }) ∧
    (s.rxbuf.length ≠ s.cfg.bodyMax → s.rxq = b :: more → (∃ front, s.rxbuf ++ [b] = front ++ [0x10, 0x03]) →
      ∃ arg : Word, (s.rxbuf.length + 1 < 65536 → arg = BitVec.ofNat 16 (s.rxbuf.length + 1)) ∧
        exec .h1ReadBody s = .next { s with
          rxq := more, rxbuf := s.rxbuf ++ [b], tmr := BitVec.ofNat 32 (s.cfg.tRxbyteMs / s.cfg.tPollMs)
          log := s.log ++ [⟨s.ticks - 1, .h1BodyRx, arg⟩], seq := .h1ReadCrc, phase := .running })

/-- `H1_READ_CRC` (R145). -/
def Obligations.H1ReadCrcRule : Prop :=
  ∀ (s : State) (b0 b1 : Byte) (more : List Byte),
    (s.rxq = b0 :: b1 :: more → exec .h1ReadCrc s = .next { s with
        rxq := more, rxcrc := BitVec.ofNat 16 (b0.toNat + 256 * b1.toNat)
        log := s.log ++ [⟨s.ticks - 1, .h1CrcRx, BitVec.ofNat 16 (b0.toNat + 256 * b1.toNat)⟩]
        seq := .h1VerifyCrc, phase := .running }) ∧
    (s.rxq.length < 2 → s.tmr = 0 → exec .h1ReadCrc s = .next { s with
        status := (s.status &&& 0xFE3C) ||| 0x00C2, log := s.log ++ [⟨s.ticks - 1, .h1Fail, 3⟩]
        seq := .h1Done, phase := .running }) ∧
    (s.rxq.length < 2 → s.tmr ≠ 0 →
      exec .h1ReadCrc s = .next { s with tmr := s.tmr - 1, phase := .waiting })

/-- `H1_VERIFY_CRC` (R146): the fold over `rxbuf` less every DLE and SOH, left in `crc`, against all 16 bits of
`rxcrc`; on a mismatch nothing is sent. -/
def Obligations.H1VerifyCrcRule : Prop :=
  ∀ s : State,
    let c := (s.rxbuf.filter fun b => b != 0x10 && b != 0x01).foldl crcByte 0x0000
    (c = s.rxcrc → exec .h1VerifyCrc s = .next { s with
        crc := c, log := s.log ++ [⟨s.ticks - 1, .h1CrcOk, c⟩], seq := .h1SendAck1, phase := .running }) ∧
    (c ≠ s.rxcrc → exec .h1VerifyCrc s = .next { s with
        crc := c, status := (s.status &&& 0xFE3C) ||| 0x0082
        log := s.log ++ [⟨s.ticks - 1, .h1Fail, 2⟩], seq := .h1Done, phase := .running })

/-- `H1_WAIT_EOT` (R148). -/
def Obligations.H1WaitEotRule : Prop :=
  ∀ (s : State) (b : Byte) (more : List Byte),
    (s.tmr = 0 → exec .h1WaitEot s = .next { s with
        status := (s.status &&& 0xFE3C) ||| 0x0043, log := s.log ++ [⟨s.ticks - 1, .h1Fail, 1⟩]
        seq := .h1Done, phase := .running }) ∧
    (s.tmr ≠ 0 → s.rxq = [] → exec .h1WaitEot s = .next { s with tmr := s.tmr - 1, phase := .waiting }) ∧
    (s.tmr ≠ 0 → s.rxq = 0x04 :: more → exec .h1WaitEot s = .next { s with
        tmr := s.tmr - 1, rxq := more, status := (s.status &&& 0xFFFC) ||| 0x0001
        log := s.log ++ [⟨s.ticks - 1, .h1EotRx, 0⟩, ⟨s.ticks - 1, .h1Ok, 0⟩]
        seq := .h1Done, phase := .running }) ∧
    (s.tmr ≠ 0 → s.rxq = b :: more → b ≠ 0x04 →
      exec .h1WaitEot s = .next { s with tmr := s.tmr - 1, rxq := more, phase := .waiting })

/-- The DONE states: `H1_DONE` (R149) and `H2_DONE` (R167) go on after a success and end the cycle otherwise;
`XF_DONE` (R189) ends the cycle and sends nothing. -/
def Obligations.DoneStates : Prop :=
  ∀ s : State,
    (s.status.toNat % 4 = 1 → exec .h1Done s = .next { s with seq := .h2SendEnq, phase := .running }) ∧
    (s.status.toNat % 4 ≠ 1 → exec .h1Done s = .next { s with seq := .cycleEnd, phase := .running }) ∧
    (s.status.toNat / 4 % 4 = 1 → exec .h2Done s = .next { s with seq := .xfNextLine, phase := .running }) ∧
    (s.status.toNat / 4 % 4 ≠ 1 → exec .h2Done s = .next { s with seq := .cycleEnd, phase := .running }) ∧
    exec .xfDone s = .next { s with seq := .cycleEnd, phase := .running }

/-! ### Handshake 2 -/

/-- The waits for an ACK: `H2_WAIT_ACK0` (R162), `H2_WAIT_ACK1` (R164), `XF_WAIT_ACK0` (R183). -/
def Obligations.AckWaitRules : Prop :=
  ∀ (s : State) (a b : Byte) (more : List Byte),
    (s.tmr = 0 →
      exec .h2WaitAck0 s = .next { s with
        status := (s.status &&& 0xFE33) ||| 0x004C, log := s.log ++ [⟨s.ticks - 1, .h2Fail, 1⟩]
        seq := .h2Done, phase := .running } ∧
      exec .h2WaitAck1 s = .next { s with
        status := (s.status &&& 0xFE33) ||| 0x004C, log := s.log ++ [⟨s.ticks - 1, .h2Fail, 1⟩]
        seq := .h2Done, phase := .running } ∧
      exec .xfWaitAck0 s = .next { s with
        status := (s.status &&& 0xFE0F) ||| 0x0070, log := s.log ++ [⟨s.ticks - 1, .xfFail, 1⟩]
        seq := .xfDone, phase := .running }) ∧
    (s.tmr ≠ 0 → s.rxq.length < 2 →
      exec .h2WaitAck0 s = .next { s with tmr := s.tmr - 1, phase := .waiting } ∧
      exec .h2WaitAck1 s = .next { s with tmr := s.tmr - 1, phase := .waiting } ∧
      exec .xfWaitAck0 s = .next { s with tmr := s.tmr - 1, phase := .waiting }) ∧
    (s.tmr ≠ 0 → s.rxq = 0x10 :: 0x30 :: more →
      exec .h2WaitAck0 s = .next { s with
        tmr := s.tmr - 1, rxq := more, log := s.log ++ [⟨s.ticks - 1, .h2Ack0Rx, 0⟩]
        seq := .h2SendId, phase := .running } ∧
      exec .xfWaitAck0 s = .next { s with
        tmr := s.tmr - 1, rxq := more, log := s.log ++ [⟨s.ticks - 1, .xfAck0Rx, 0⟩]
        seq := .xfBuildFrame, phase := .running }) ∧
    (s.tmr ≠ 0 → s.rxq = 0x10 :: 0x31 :: more →
      exec .h2WaitAck1 s = .next { s with
        tmr := BitVec.ofNat 32 (50 / s.cfg.tPollMs), rxq := more
        log := s.log ++ [⟨s.ticks - 1, .h2Ack1Rx, 0⟩], seq := .h2Pause, phase := .running }) ∧
    (s.tmr ≠ 0 → s.rxq = a :: b :: more → ¬(a = 0x10 ∧ b = 0x30) →
      exec .h2WaitAck0 s = .next { s with tmr := s.tmr - 1, rxq := more, phase := .waiting } ∧
      exec .xfWaitAck0 s = .next { s with tmr := s.tmr - 1, rxq := more, phase := .waiting }) ∧
    (s.tmr ≠ 0 → s.rxq = a :: b :: more → ¬(a = 0x10 ∧ b = 0x31) →
      exec .h2WaitAck1 s = .next { s with tmr := s.tmr - 1, rxq := more, phase := .waiting })

/-- `H2_SEND_ID` (R163) sends the identification frame of R104 and R160, byte for byte, whatever the state. That the
characters are sent as their ASCII codes is a presumption (R61 takes them from general knowledge: log 19); 0x026B, the
CRC over all 21 bytes, is the value R104 derives under it and under the spec's decision D1 (log 18). -/
def Obligations.IdentificationFrameSent : Prop :=
  ∀ s : State,
    let f : List Byte := [0x10, 0x01, 0x53, 0x57, 0x52, 0x30, 0x30, 0x31, 0x30, 0x30, 0x30, 0x31, 0x52, 0x52, 0x30,
      0x31, 0x4C, 0x30, 0x31, 0x10, 0x03, 0x6B, 0x02]
    exec .h2SendId s = .next { s with
      txf := f, crc := 0x026B, txs := s.txs ++ f.map fun b => (s.ticks - 1, b)
      log := s.log ++ [⟨s.ticks - 1, .h2IdTx, 0x026B⟩], tmr := BitVec.ofNat 32 (5000 / s.cfg.tPollMs)
      seq := .h2WaitAck1, phase := .running }

/-! ### The transfer -/

/-- `XF_NEXT_LINE` (R181): done, the first line, a later line. -/
def Obligations.NextLineRule : Prop :=
  ∀ s : State,
    (s.pay.length ≤ s.li.toNat → exec .xfNextLine s = .next { s with
        status := (s.status &&& 0xFFCF) ||| 0x0010, log := s.log ++ [⟨s.ticks - 1, .xfDone, s.skipped⟩]
        seq := .xfDone, phase := .running }) ∧
    (s.li.toNat < s.pay.length → s.li = 0 →
      exec .xfNextLine s = .next { s with seq := .xfSendEnq, phase := .running }) ∧
    (s.li.toNat < s.pay.length → s.li ≠ 0 →
      exec .xfNextLine s = .next { s with seq := .xfBuildFrame, phase := .running })

/-- `XF_BUILD_FRAME` (R184) and `XF_SEND_FRAME` (R185): the frame of line `li`, ended by ETX when it is the last and
by ETB when it is not, with its own CRC; then its transmission and the start of its window. A line is `t ++ e`
with `e` the CR and LF bytes that R102 removes. -/
def Obligations.LineFramedAndSent : Prop :=
  (∀ (s : State) (t e : List Byte), s.pay[s.li.toNat]? = some (t ++ e) → noTrailingEol t = true →
    (∀ b ∈ e, b = 0x0D ∨ b = 0x0A) →
    let body := t ++ [0x0D, 0x0A, 0x10, if s.li.toNat + 1 = s.pay.length then 0x03 else 0x17]
    let c := (body.filter fun b => b != 0x10).foldl crcByte 0x0000
    exec .xfBuildFrame s = .next { s with
      crc := c
      txf := [0x10, 0x02] ++ body ++ [BitVec.ofNat 8 c.toNat, BitVec.ofNat 8 (c.toNat / 256)]
      seq := .xfSendFrame, phase := .running }) ∧
  (∀ s : State, exec .xfSendFrame s = .next { s with
      txs := s.txs ++ s.txf.map fun b => (s.ticks - 1, b)
      log := s.log ++ [⟨s.ticks - 1, .xfLineTx, s.li⟩], tmr := BitVec.ofNat 32 (5000 / s.cfg.tPollMs)
      seq := .xfWaitResp, phase := .running })

/-- `XF_WAIT_RESP` (R186) with its branches `LineTimeout` (R187) and `Retransmit` (R188): either ACK accepts the line;
a NAK resends the identical frame and reloads the window only under NAK_RESTARTS_WINDOW; the window's end skips
the line and counts it; anything else is noise. The counters are below their last value where they are counted up,
which is so in every run (R26, R33). -/
def Obligations.LineResponseRules : Prop :=
  ∀ (s : State) (a b : Byte) (more : List Byte),
    (s.tmr = 0 → s.li ≠ 0xFFFF → s.skipped ≠ 0xFFFF → exec .xfWaitResp s = .next { s with
        status := (s.status &&& 0xFE3F) ||| 0x0100, skipped := s.skipped + 1
        log := s.log ++ [⟨s.ticks - 1, .xfLineTimeout, s.li⟩], li := s.li + 1
        seq := .xfNextLine, phase := .running }) ∧
    (s.tmr ≠ 0 → s.rxq = 0x15 :: more → exec .xfWaitResp s = .next { s with
        rxq := more, log := s.log ++ [⟨s.ticks - 1, .xfLineNak, s.li⟩]
        txs := s.txs ++ s.txf.map fun b => (s.ticks - 1, b)
        tmr := if s.cfg.nakRestartsWindow then BitVec.ofNat 32 (5000 / s.cfg.tPollMs) else s.tmr - 1
        phase := .waiting }) ∧
    (s.tmr ≠ 0 → s.li ≠ 0xFFFF → s.rxq = 0x10 :: b :: more → b = 0x30 ∨ b = 0x31 → exec .xfWaitResp s = .next { s with
        tmr := s.tmr - 1, rxq := more, log := s.log ++ [⟨s.ticks - 1, .xfLineAck, s.li⟩], li := s.li + 1
        seq := .xfNextLine, phase := .running }) ∧
    (s.tmr ≠ 0 → s.rxq = a :: b :: more → a ≠ 0x15 → ¬(a = 0x10 ∧ (b = 0x30 ∨ b = 0x31)) →
      exec .xfWaitResp s = .next { s with tmr := s.tmr - 1, rxq := more, phase := .waiting }) ∧
    (s.tmr ≠ 0 → s.rxq = [] ∨ (s.rxq = [a] ∧ a ≠ 0x15) →
      exec .xfWaitResp s = .next { s with tmr := s.tmr - 1, phase := .waiting })

/-! ### The driver, reset, the environment -/

/-- `CYCLE_START` (R201), for a payload within the bounds of R56, and `CYCLE_END` (R203). -/
def Obligations.CycleBoundary : Prop :=
  (∀ s : State, s.src.length ≤ s.cfg.nlinesMax → (∀ l ∈ s.src, (stripEol l).length ≤ s.cfg.lineMax) →
    exec .cycleStart s = .next { s with
      rxq := [], pay := s.src, crc := 0, rxcrc := 0, rxbuf := [], txf := [], li := 0, status := 0, skipped := 0
      log := s.log ++ [⟨s.ticks - 1, .cycleStart, 0⟩], tmr := BitVec.ofNat 32 (300000 / s.cfg.tPollMs)
      seq := .h1WaitEnq, phase := .running }) ∧
  (∀ s : State, exec .cycleEnd s = .next { s with
      log := s.log ++ [⟨s.ticks - 1, .cycleEnd, s.status⟩], seq := .cycleStart, phase := .running })

/-- The reset table of R37: the registers after `rst`, with RXQ, TXS and LOG unchanged, and after the
`CYCLE_START` that follows. -/
def Obligations.ResetTable : Prop :=
  (∀ s : State,
    s.rst.seq = .cycleStart ∧ s.rst.seq.code = 0x00 ∧ s.rst.crc = 0 ∧ s.rst.rxcrc = 0 ∧ s.rst.rxbuf = [] ∧
    s.rst.txf = [] ∧ s.rst.pay = [] ∧ s.rst.li = 0 ∧ s.rst.tmr = 0 ∧ s.rst.status = 0 ∧ s.rst.skipped = 0 ∧
    s.rst.rxq = s.rxq ∧ s.rst.txs = s.txs ∧ s.rst.log = s.log) ∧
  (∀ s : State, s.src.length ≤ s.cfg.nlinesMax → (∀ l ∈ s.src, (stripEol l).length ≤ s.cfg.lineMax) →
    ∃ t, exec .cycleStart s = .next t ∧
      t.seq = .h1WaitEnq ∧ t.seq.code = 0x01 ∧ t.crc = 0 ∧ t.rxcrc = 0 ∧ t.rxbuf = [] ∧ t.txf = [] ∧ t.pay = s.src ∧
      t.li = 0 ∧ t.tmr = BitVec.ofNat 32 (300000 / s.cfg.tPollMs) ∧ t.status = 0 ∧ t.skipped = 0 ∧ t.rxq = [] ∧
      t.txs = s.txs ∧ t.log = s.log ++ [⟨s.ticks - 1, .cycleStart, 0⟩])

/-- The machine right after reset has the registers of R37 and runs `CYCLE_START` in the first tick (R250). That its
streams and payload source are empty and its parameters the defaults is the model's choice: log 13, log 10. -/
def Obligations.ResetStateThenCycleStart : Prop :=
  State.reset.seq = .cycleStart ∧ State.reset.crc = 0 ∧ State.reset.rxcrc = 0 ∧ State.reset.rxbuf = [] ∧
  State.reset.txf = [] ∧ State.reset.pay = [] ∧ State.reset.li = 0 ∧ State.reset.tmr = 0 ∧ State.reset.status = 0 ∧
  State.reset.skipped = 0 ∧
  ∃ s t : State, step State.reset = .next s ∧ s.ticks = 1 ∧ step s = .next t ∧ t.seq = .h1WaitEnq ∧ t.tmr = 30000 ∧
    t.log = [⟨0, .cycleStart, 0⟩]

/-- What a step does while the engine waits: the next action of the environment, a tick when none is listed. Bytes
that arrive wait for the tick, which appends them to RXQ and starts the run (R30, R31); `rst` gives the
registers of R37 their reset values (R250); the host may change its payload source (R49). The list of actions, its end
and the recurring actions after it are the model's choice: log 7, log 20. -/
def Obligations.EnvironmentActs : Prop :=
  ∀ (s : State) (rest : List Input) (bytes : List Byte) (lines : List Line),
    legalParams s.cfg = true → s.port = none → s.phase = .waiting →
    (s.inputs = [] → s.recurring = [] → step s = .next { s with
        rxq := s.rxq ++ s.arr, arr := [], ticks := s.ticks + 1, phase := .running }) ∧
    (∀ i : Input, s.inputs = [] → s.recurring = i :: rest → step s = step { s with inputs := i :: rest }) ∧
    (s.inputs = .tick :: rest → step s = .next { s with
        rxq := s.rxq ++ s.arr, arr := [], ticks := s.ticks + 1, phase := .running, inputs := rest }) ∧
    (s.inputs = .arrive bytes :: rest → step s = .next { s with arr := s.arr ++ bytes, inputs := rest }) ∧
    (s.inputs = .rst :: rest → step s = .next { s with
        seq := .cycleStart, crc := 0, rxcrc := 0, rxbuf := [], txf := [], pay := [], li := 0, tmr := 0, status := 0
        skipped := 0, ticks := 0, phase := .waiting, inputs := rest }) ∧
    (s.inputs = .payload lines :: rest → step s = .next { s with src := lines, inputs := rest })

/-- A step runs the decoded instruction: unless the machine waits with nothing put before it, when the bytes fetched
decode to `i`, the step is `exec i` with the port used up. The port, through which an instruction may also run in the
waiting phase, is the model's choice (log 5), as is the phase that says whether the machine waits (log 8). Without an
instruction put before the machine, the bytes are the code of `seq`, they decode to the rule of that state, and the
step adds nothing around it (R28, R31). -/
def Obligations.StepRunsDecodedInstruction : Prop :=
  (∀ (s : State) (i : Instr) (rest : List Byte), legalParams s.cfg = true → s.idling = false →
    decode s.fetch.format s.fetch.bytes = .ok i rest → step s = exec i { s with port := none }) ∧
  (∀ s : State, s.port = none →
    s.fetch = ⟨.sequencer, [s.seq.code.setWidth 8]⟩ ∧
    decode s.fetch.format s.fetch.bytes = .ok s.seq.instr [] ∧
    wellFormed s.seq.instr = true ∧
    (legalParams s.cfg = true → s.phase = .running → step s = exec s.seq.instr s))

/-- Where the model stops (log 10, 11, 15, 17, 22): a configuration outside R9's types or with a bounded RXQ (I2,
I7); a payload beyond R56's bounds; a line index outside `pay` (R41, R57); bytes put before the machine that are no
instruction of their format (R69 e, I9). -/
def Obligations.WhereTheModelStops : Prop :=
  (∀ s : State,
    ¬(0 < s.cfg.tPollMs ∧ s.cfg.tPollMs ∣ 50 ∧ 0 < s.cfg.tRxbyteMs ∧ s.cfg.tPollMs ∣ s.cfg.tRxbyteMs ∧
      s.cfg.tRxbyteMs / s.cfg.tPollMs < 2 ^ 32 ∧ 4 ≤ s.cfg.bodyMax ∧ s.cfg.nlinesMax ≤ 65535 ∧
      s.cfg.rxqDepth = none) →
    step s = .refused .illegalParameters) ∧
  (∀ s : State,
    ¬(s.src.length ≤ s.cfg.nlinesMax ∧ ∀ l ∈ s.src, (stripEol l).length ≤ s.cfg.lineMax) →
    exec .cycleStart s = .refused .payloadOutOfBounds) ∧
  (∀ s : State, s.pay.length ≤ s.li.toNat → exec .xfBuildFrame s = .fault .lineIndexOutOfRange) ∧
  (∀ (s : State) (f : Format) (bytes : List Byte) (why : DecodeError), legalParams s.cfg = true →
    s.port = some ⟨f, bytes⟩ → decode f bytes = .rejected why → f ≠ .sequencer →
    step s = .refused .reservedEncoding)

/-- A sequencer code 0x1A to 0x1F forced into the machine behaves as `CYCLE_END` (R69 d; log 21), and no state of
the sequencer has such a code. -/
def Obligations.ForcedCodeEndsCycle : Prop :=
  (∀ q : Seq, q.code.toNat < 0x1A) ∧
  ∀ (s : State) (w : Nat), legalParams s.cfg = true → 0x1A ≤ w → w ≤ 0x1F →
    decodeTableWord 8 w = none ∧
    step (s.withFetchWord 8 w) = .next { s with
      log := s.log ++ [⟨s.ticks - 1, .cycleEnd, s.status⟩], seq := .cycleStart, phase := .running, port := none }

/-! ### Encodings -/

/-- Words written out from the encoding tables: control codes (R60), pairs (R62), a header frame with one
identification byte (R64), a data frame (R65, R105), state codes (R71) and unit-operation codes (R72; the operands'
form is the model's, log 4). -/
def Obligations.WordsDecodeToTheirInstructions : Prop :=
  decode .c1 [0x05] = .ok .enq [] ∧
  decode .c1 [0x15] = .ok .nak [] ∧
  decode .c1 [0x06] = .rejected .reservedCode ∧
  decode .c2 [0x10, 0x31] = .ok .ack1 [] ∧
  decode .c2 [0x10, 0x17] = .ok .dleEtb [] ∧
  decode .c2 [0x10, 0x15] = .rejected .reservedCode ∧
  decode .hf [0x10, 0x01, 0x41, 0x10, 0x03, 0xDD, 0xEA] = .ok (.hf [0x41]) [] ∧
  decode .df [0x10, 0x02, 0x41, 0x31, 0x42, 0x32, 0x0D, 0x0A, 0x10, 0x17, 0xF4, 0xFF]
    = .ok (.dfEtb [0x41, 0x31, 0x42, 0x32]) [] ∧
  decode .df [0x10, 0x02, 0x0D, 0x0A, 0x10, 0x03, 0xD7, 0x62] = .ok (.dfEtx []) [] ∧
  decode .sequencer [0x00] = .ok .cycleStart [] ∧
  decode .sequencer [0x0C] = .ok .h2SendId [] ∧
  decode .sequencer [0x19] = .ok .h1Ack1Pause [] ∧
  decode .sequencer [0x1A] = .rejected .reservedCode ∧
  decode .unit [0x02, 0x01, 0x41, 0x00, 0x02] = .ok (.crcFold [0x41] .dleSoh) [] ∧
  decode .unit [0x13, 0x03] = .ok (.txCtl .ack1) [] ∧
  decode .unit [0x15] = .rejected .reservedCode ∧
  decodeTableWord 8 0x16 = some .xfWaitResp ∧
  decodeTableWord 16 0x1030 = some .ack0

/-- Decode and encode agree: for every well-formed instruction, the encoder's bytes, with any bytes after them,
decode in the instruction's format to it and leave those bytes. -/
def Obligations.DecodeOfEncode : Prop :=
  ∀ (i : Instr) (rest : List Byte), wellFormed i = true → decode i.format (encode i ++ rest) = .ok i rest

/-- The other direction: what decodes is well formed and of its format, and on the wire (control codes, pairs and
frames) the bytes are the encoder's. -/
def Obligations.EncodeOfDecode : Prop :=
  ∀ (f : Format) (bytes rest : List Byte) (i : Instr), decode f bytes = .ok i rest →
    wellFormed i = true ∧ i.format = f ∧ (f ≠ .sequencer → f ≠ .unit → encode i ++ rest = bytes)

/-! ### Invariants of every step -/

/-- The buffers never exceed their capacities (R23, R24, R25), whatever the parameters. -/
def Obligations.BuffersStayWithinCapacity : Prop :=
  ∀ s t : State, s.undisturbed → s.buffersFit → step s = .next t → t.undisturbed ∧ t.buffersFit

/-- `STATUS` stays legal: its reserved bits stay 0, XF_OUT is never 2 and ERR never above 4 (R32 lists these as never
written), and H2_OUT is never 2, since the states of handshake 2 raise HandshakeTimeout only (R162, R164, R221). -/
def Obligations.StatusStaysLegal : Prop :=
  ∀ s t : State, s.undisturbed → s.statusLegal → step s = .next t → t.undisturbed ∧ t.statusLegal

/-- The line index stays inside `pay` wherever a line is being transferred, and `SKIPPED` never exceeds it (R26, R33,
R41). -/
def Obligations.LineIndexStaysInside : Prop :=
  ∀ s t : State, s.undisturbed → s.lineIndexFits → step s = .next t → t.undisturbed ∧ t.lineIndexFits

/-- A stage runs only after the one before it succeeded (R200): handshake 2 only with `H1_OUT` SUCCESS, the transfer
only with `H1_OUT` and `H2_OUT` SUCCESS. -/
def Obligations.StagesRunInOrder : Prop :=
  ∀ s t : State, s.undisturbed → s.stagesInOrder → step s = .next t → t.undisturbed ∧ t.stagesInOrder

/-- The timer never exceeds the larger of N_ENQ and N_RXB: the model's bound, since R9 allows a T_RXBYTE_MS for which
R130's "no load exceeds N_ENQ" fails (log 11). Where N_RXB does not exceed N_ENQ the timer stays within N_ENQ, as R27 and
R130 say. `H1_ACK1_PAUSE` is reached only under PAUSE_AFTER_ACK1 (R150). -/
def Obligations.TimerAndPauseStayBounded : Prop :=
  ∀ s t : State, s.undisturbed → s.timerBounded → s.ack1PauseAllowed → step s = .next t →
    t.undisturbed ∧ t.timerBounded ∧ t.ack1PauseAllowed ∧ t.cfg = s.cfg ∧
    (s.cfg.tRxbyteMs ≤ 300000 → t.tmr.toNat ≤ 300000 / t.cfg.tPollMs)

/-- The invariants hold right after reset. -/
def Obligations.InvariantsHoldAtReset : Prop :=
  State.reset.undisturbed ∧ State.reset.buffersFit ∧ State.reset.statusLegal ∧ State.reset.lineIndexFits ∧
  State.reset.stagesInOrder ∧ State.reset.timerBounded ∧ State.reset.ack1PauseAllowed

/-- No step of the engine's own run faults (R41: no rule computes an index outside `pay`). -/
def Obligations.EngineNeverFaults : Prop :=
  ∀ (s : State) (f : Fault), s.undisturbed → s.lineIndexFits → step s ≠ .fault f

/-! ### The machine as a whole -/

/-- The transition table of R202: every step inside a tick goes to a listed successor, or stays in a timed state,
blocking unless it is `H1_READ_BODY` after a byte. -/
def Obligations.TransitionsAreTheTable : Prop :=
  ∀ s t : State, s.undisturbed → s.phase = .running → step s = .next t →
    (t.seq ∈ successors s.seq ∧ t.phase = .running) ∨
    (t.seq = s.seq ∧ timedState s.seq = true ∧ (t.phase = .waiting ∨ s.seq = .h1ReadBody))

/-- The loop of R31 ends in every tick: from every state inside a tick whose line index is inside `pay` (`lineIndexFits`,
an invariant of every step) and whose payload source is within the bounds of R56, so that a cycle that starts in this
tick is not refused (log 17), the engine comes to wait, in that same tick. -/
def Obligations.EveryTickEnds : Prop :=
  ∀ s : State, legalParams s.cfg = true → s.undisturbed → s.phase = .running → s.lineIndexFits →
    payloadLegal s.cfg s.src = true →
    ∃ (n : Nat) (t : State), Host.Core.run Sys2Proof.core n s = .next t ∧ t.phase = .waiting ∧ t.ticks = s.ticks

/-- The codes of the 26 diagnostic events are those of R240's table, in its order. -/
def Obligations.EventCodesAreTheTable : Prop :=
  [Event.cycleStart, .h1EnqRx, .h1Ack0Tx, .h1BodyRx, .h1CrcRx, .h1CrcOk, .h1Ack1Tx, .h1EotRx, .h1Ok, .h1Fail,
    .h2EnqTx, .h2Ack0Rx, .h2IdTx, .h2Ack1Rx, .h2EotTx, .h2Ok, .h2Fail,
    .xfEnqTx, .xfAck0Rx, .xfLineTx, .xfLineAck, .xfLineNak, .xfLineTimeout, .xfFail, .xfDone, .cycleEnd].map eventCode
  = [0x01, 0x02, 0x03, 0x04, 0x05, 0x06, 0x07, 0x08, 0x09, 0x0A,
    0x0B, 0x0C, 0x0D, 0x0E, 0x0F, 0x10, 0x11,
    0x12, 0x13, 0x14, 0x15, 0x16, 0x17, 0x18, 0x19, 0x1A]

/-- The log is an output only (R241): no instruction's effect on anything but the log depends on it. -/
def Obligations.LogIsOutputOnly : Prop :=
  ∀ (i : Instr) (s t : State) (l : List LogEntry), exec i s = .next t →
    ∃ l' : List LogEntry, exec i { s with log := l } = .next { t with log := l' }

/-- TXS and LOG only grow, at their end, by entries of the current tick (R35, R53, R58). -/
def Obligations.OutputStreamsOnlyGrow : Prop :=
  ∀ s t : State, step s = .next t →
    ∃ (bytes : List (Nat × Byte)) (events : List LogEntry),
      t.txs = s.txs ++ bytes ∧ t.log = s.log ++ events ∧
      (∀ p ∈ bytes, p.1 = s.ticks - 1) ∧ (∀ e ∈ events, e.tick = s.ticks - 1)

/-- An instruction takes bytes from the front of RXQ only, at most two at a time; only `CYCLE_START` empties it (R35,
R44, R52). -/
def Obligations.InputQueueReadAtFront : Prop :=
  ∀ (i : Instr) (s t : State), exec i s = .next t →
    (∃ n, n ≤ 2 ∧ t.rxq = s.rxq.drop n) ∨ (i = .cycleStart ∧ t.rxq = [])

/-- After a fatal error control goes, in the tick of the error, through the stage's DONE state, `CYCLE_END` and
`CYCLE_START` to a clean wait for ENQ; nothing is transmitted (R222, R227, R228). -/
def Obligations.FatalErrorRestartsCycle : Prop :=
  ∀ (s : State) (x : Stage) (k : FatalKind), legalParams s.cfg = true → s.undisturbed →
    payloadLegal s.cfg s.src = true →
    ∃ t : State, Host.Core.run Sys2Proof.core 3 (s.raise x k) = .next t ∧
      t.seq = .h1WaitEnq ∧ t.phase = .running ∧ t.status = 0 ∧ t.skipped = 0 ∧ t.rxq = [] ∧ t.rxbuf = [] ∧
      t.txf = [] ∧ t.crc = 0 ∧ t.rxcrc = 0 ∧ t.li = 0 ∧ t.pay = s.src ∧
      t.tmr = BitVec.ofNat 32 (300000 / s.cfg.tPollMs) ∧ t.ticks = s.ticks ∧ t.txs = s.txs

/-- A polled wait entered with `tmr = N` and a silent peer makes `N` attempts, one a tick, and reports expiry in the
tick `N` ticks after entry (R120). In the five handshake waits the stage then fails with HandshakeTimeout and outcome
TIMEOUT (R221, R222); in `XF_WAIT_RESP` the line is abandoned, ERR is LineTransferTimeout and `XF_OUT` stays (R187).
Nothing is transmitted. Silence is the model's: an environment with nothing listed and nothing recurring (log 7). The
counters are below their last value where they are counted up, which is so in every run (R26, R33). -/
def Obligations.SilentPeerExpiresOnTime : Prop :=
  (∀ (s : State) (done : Seq) (x : Stage),
    (s.seq, done, x) ∈ [(Seq.h1WaitEnq, Seq.h1Done, Stage.h1), (.h1WaitEot, .h1Done, .h1), (.h2WaitAck0, .h2Done, .h2),
      (.h2WaitAck1, .h2Done, .h2), (.xfWaitAck0, .xfDone, .xf)] →
    legalParams s.cfg = true → s.undisturbed → s.phase = .running → s.silent →
    ∃ t : State, Host.Core.run Sys2Proof.core (2 * s.tmr.toNat + 1) s = .next t ∧
      t.ticks = s.ticks + s.tmr.toNat ∧ t.seq = done ∧ errField t.status = 1 ∧ stageOut x t.status = 3 ∧
      t.txs = s.txs) ∧
  (∀ s : State, s.seq = .xfWaitResp → s.li ≠ 0xFFFF → s.skipped ≠ 0xFFFF →
    legalParams s.cfg = true → s.undisturbed → s.phase = .running → s.silent →
    ∃ t : State, Host.Core.run Sys2Proof.core (2 * s.tmr.toNat + 1) s = .next t ∧
      t.ticks = s.ticks + s.tmr.toNat ∧ t.seq = .xfNextLine ∧ errField t.status = 4 ∧
      xfOut t.status = xfOut s.status ∧ t.skipped = s.skipped + 1 ∧ t.li = s.li + 1 ∧ t.txs = s.txs)

/-- The map of R68, in the polled waits, for a token alone on the line: it arrives, the next tick delivers it, and the
state makes one attempt. The state that awaits the token goes on. A NAK in `XF_WAIT_RESP` resends the frame. Anything
else leaves the state waiting: a one-byte wait loses one byte (all of a control code, the DLE of a pair); a chunk wait
loses a pair it does not await, and leaves a lone control code in RXQ (R123, R124). That running a token is its arrival
is the model's reading (log 2), and so is the tick of an environment with nothing listed (log 7). -/
def Obligations.TokensAreRecognisedByState : Prop :=
  ∀ s : State, legalParams s.cfg = true → s.undisturbed → s.phase = .waiting → s.silent → s.tmr ≠ 0 →
    (∀ (i : Instr) (after : Seq),
      (s.seq, i, after) ∈ [(Seq.h1WaitEnq, Instr.enq, Seq.h1SendAck0), (.h1WaitEot, .eot, .h1Done),
        (.h2WaitAck0, .ack0, .h2SendId), (.h2WaitAck1, .ack1, .h2Pause), (.xfWaitAck0, .ack0, .xfBuildFrame),
        (.xfWaitResp, .ack0, .xfNextLine), (.xfWaitResp, .ack1, .xfNextLine)] →
      ∃ s1 s2 s3 : State, exec i s = .next s1 ∧ step s1 = .next s2 ∧ step s2 = .next s3 ∧
        s3.seq = after ∧ s3.phase = .running ∧ s3.rxq = []) ∧
    (∀ i : Instr, i.format = .c1 →
      (s.seq = .h1WaitEnq ∧ i ≠ .enq) ∨ (s.seq = .h1WaitEot ∧ i ≠ .eot) →
      ∃ s1 s2 s3 : State, exec i s = .next s1 ∧ step s1 = .next s2 ∧ step s2 = .next s3 ∧
        s3.seq = s.seq ∧ s3.phase = .waiting ∧ s3.rxq = [] ∧ s3.status = s.status ∧ s3.txs = s.txs) ∧
    (∀ i : Instr, i.format = .c2 → s.seq = .h1WaitEnq ∨ s.seq = .h1WaitEot →
      ∃ s1 s2 s3 : State, exec i s = .next s1 ∧ step s1 = .next s2 ∧ step s2 = .next s3 ∧
        s3.seq = s.seq ∧ s3.phase = .waiting ∧ s3.rxq = (encode i).drop 1 ∧ s3.status = s.status ∧ s3.txs = s.txs) ∧
    (∀ i : Instr, i.format = .c2 →
      (s.seq ∈ [Seq.h2WaitAck0, .xfWaitAck0] ∧ i ≠ .ack0) ∨ (s.seq = .h2WaitAck1 ∧ i ≠ .ack1) ∨
        (s.seq = .xfWaitResp ∧ i ≠ .ack0 ∧ i ≠ .ack1) →
      ∃ s1 s2 s3 : State, exec i s = .next s1 ∧ step s1 = .next s2 ∧ step s2 = .next s3 ∧
        s3.seq = s.seq ∧ s3.phase = .waiting ∧ s3.rxq = [] ∧ s3.status = s.status ∧ s3.txs = s.txs) ∧
    (∀ i : Instr, i.format = .c1 →
      s.seq ∈ [Seq.h2WaitAck0, .h2WaitAck1, .xfWaitAck0] ∨ (s.seq = .xfWaitResp ∧ i ≠ .nak) →
      ∃ s1 s2 s3 : State, exec i s = .next s1 ∧ step s1 = .next s2 ∧ step s2 = .next s3 ∧
        s3.seq = s.seq ∧ s3.phase = .waiting ∧ s3.rxq = encode i ∧ s3.status = s.status ∧ s3.txs = s.txs) ∧
    (s.seq = .xfWaitResp →
      ∃ s1 s2 s3 : State, exec .nak s = .next s1 ∧ step s1 = .next s2 ∧ step s2 = .next s3 ∧
        s3.seq = .xfWaitResp ∧ s3.phase = .waiting ∧ s3.rxq = [] ∧ s3.li = s.li ∧ s3.txf = s.txf ∧
        s3.txs = s.txs ++ s.txf.map fun b => (s.ticks, b))

/-- NAK without end (R279). Under NAK_RESTARTS_WINDOW a peer that NAKs at least once in every window keeps the engine in
`XF_WAIT_RESP` for ever: however many steps are run, the state, the line, STATUS and SKIPPED are what they were, while
the ticks go by and the frame is sent again for every NAK. Without it a peer that NAKs before every tick costs the
attempts the timer has left, each with its retransmission, and the line is then abandoned. Such a peer is an environment
with recurring actions (log 7). The counters are below their last value where they are counted up (R26, R33). -/
def Obligations.NakWithoutEnd : Prop :=
  (∀ (s : State) (gap : Nat), legalParams s.cfg = true → s.undisturbed → s.seq = .xfWaitResp → s.phase = .waiting →
    s.nakEvery gap → s.tmr ≠ 0 → s.cfg.nakRestartsWindow = true → 0 < gap → gap ≤ 5000 / s.cfg.tPollMs →
    (∀ m : Nat, ∃ t : State, Host.Core.run Sys2Proof.core m s = .next t ∧
      t.seq = .xfWaitResp ∧ t.li = s.li ∧ t.status = s.status ∧ t.skipped = s.skipped ∧ t.txf = s.txf) ∧
    (∀ n : Nat, ∃ t : State, Host.Core.run Sys2Proof.core (n * (2 * gap + 1)) s = .next t ∧
      t.ticks = s.ticks + n * gap ∧ t.txs.length = s.txs.length + n * s.txf.length)) ∧
  (∀ s : State, legalParams s.cfg = true → s.undisturbed → s.seq = .xfWaitResp → s.phase = .waiting →
    s.nakEvery 1 → s.cfg.nakRestartsWindow = false → s.li ≠ 0xFFFF → s.skipped ≠ 0xFFFF →
    ∃ t : State, Host.Core.run Sys2Proof.core (3 * s.tmr.toNat + 3) s = .next t ∧
      t.seq = .xfNextLine ∧ t.ticks = s.ticks + s.tmr.toNat + 1 ∧ t.li = s.li + 1 ∧ t.skipped = s.skipped + 1 ∧
      errField t.status = 4 ∧ t.txs.length = s.txs.length + s.tmr.toNat * s.txf.length)
end

