-- ==== Sys2Proof/Laws/Flags.lean ====
section
/-! SUPPORT. The fields of `STATUS`: what a write of one field leaves in each (R32), and the masks of the writes
the rules make. -/

namespace Sys2Proof.Machine

/-! ### Reading a field after a write -/

section
variable (st : Word) (v : BitVec 2) (e : BitVec 3)

@[simp] theorem h1Out_setH1Out : h1Out (setH1Out st v) = v := by
  apply BitVec.eq_of_getLsbD_eq; intro k hk
  interval_cases k <;> simp [h1Out, setH1Out]

@[simp] theorem h2Out_setH1Out : h2Out (setH1Out st v) = h2Out st := by
  apply BitVec.eq_of_getLsbD_eq; intro k hk
  interval_cases k <;> simp [h2Out, setH1Out]

@[simp] theorem xfOut_setH1Out : xfOut (setH1Out st v) = xfOut st := by
  apply BitVec.eq_of_getLsbD_eq; intro k hk
  interval_cases k <;> simp [xfOut, setH1Out]

@[simp] theorem errField_setH1Out : errField (setH1Out st v) = errField st := by
  apply BitVec.eq_of_getLsbD_eq; intro k hk
  interval_cases k <;> simp [errField, setH1Out]

@[simp] theorem reservedField_setH1Out : reservedField (setH1Out st v) = reservedField st := by
  apply BitVec.eq_of_getLsbD_eq; intro k hk
  interval_cases k <;> simp [reservedField, setH1Out]

@[simp] theorem h1Out_setH2Out : h1Out (setH2Out st v) = h1Out st := by
  apply BitVec.eq_of_getLsbD_eq; intro k hk
  interval_cases k <;> simp [h1Out, setH2Out]

@[simp] theorem h2Out_setH2Out : h2Out (setH2Out st v) = v := by
  apply BitVec.eq_of_getLsbD_eq; intro k hk
  interval_cases k <;> simp [h2Out, setH2Out]

@[simp] theorem xfOut_setH2Out : xfOut (setH2Out st v) = xfOut st := by
  apply BitVec.eq_of_getLsbD_eq; intro k hk
  interval_cases k <;> simp [xfOut, setH2Out]

@[simp] theorem errField_setH2Out : errField (setH2Out st v) = errField st := by
  apply BitVec.eq_of_getLsbD_eq; intro k hk
  interval_cases k <;> simp [errField, setH2Out]

@[simp] theorem reservedField_setH2Out : reservedField (setH2Out st v) = reservedField st := by
  apply BitVec.eq_of_getLsbD_eq; intro k hk
  interval_cases k <;> simp [reservedField, setH2Out]

@[simp] theorem h1Out_setXfOut : h1Out (setXfOut st v) = h1Out st := by
  apply BitVec.eq_of_getLsbD_eq; intro k hk
  interval_cases k <;> simp [h1Out, setXfOut]

@[simp] theorem h2Out_setXfOut : h2Out (setXfOut st v) = h2Out st := by
  apply BitVec.eq_of_getLsbD_eq; intro k hk
  interval_cases k <;> simp [h2Out, setXfOut]

@[simp] theorem xfOut_setXfOut : xfOut (setXfOut st v) = v := by
  apply BitVec.eq_of_getLsbD_eq; intro k hk
  interval_cases k <;> simp [xfOut, setXfOut]

@[simp] theorem errField_setXfOut : errField (setXfOut st v) = errField st := by
  apply BitVec.eq_of_getLsbD_eq; intro k hk
  interval_cases k <;> simp [errField, setXfOut]

@[simp] theorem reservedField_setXfOut : reservedField (setXfOut st v) = reservedField st := by
  apply BitVec.eq_of_getLsbD_eq; intro k hk
  interval_cases k <;> simp [reservedField, setXfOut]

@[simp] theorem h1Out_setErr : h1Out (setErr st e) = h1Out st := by
  apply BitVec.eq_of_getLsbD_eq; intro k hk
  interval_cases k <;> simp [h1Out, setErr]

@[simp] theorem h2Out_setErr : h2Out (setErr st e) = h2Out st := by
  apply BitVec.eq_of_getLsbD_eq; intro k hk
  interval_cases k <;> simp [h2Out, setErr]

@[simp] theorem xfOut_setErr : xfOut (setErr st e) = xfOut st := by
  apply BitVec.eq_of_getLsbD_eq; intro k hk
  interval_cases k <;> simp [xfOut, setErr]

@[simp] theorem errField_setErr : errField (setErr st e) = e := by
  apply BitVec.eq_of_getLsbD_eq; intro k hk
  interval_cases k <;> simp [errField, setErr]

@[simp] theorem reservedField_setErr : reservedField (setErr st e) = reservedField st := by
  apply BitVec.eq_of_getLsbD_eq; intro k hk
  interval_cases k <;> simp [reservedField, setErr]

end

/-! ### The writes the rules make, as masks -/

section
variable (st : Word)

/-- What `raise` writes, one mask for each stage and error kind a rule raises (R221, R222). -/
theorem status_raise_h1_timeout :
    setStageOut .h1 (setErr st (fatalCode .handshakeTimeout)) (fatalOutcome .handshakeTimeout)
      = (st &&& 0xFE3C) ||| 0x0043 := by
  apply BitVec.eq_of_getLsbD_eq; intro k hk
  interval_cases k <;> simp [setStageOut, setH1Out, setErr, fatalCode, fatalOutcome, outcomeCode]

theorem status_raise_h1_checksum :
    setStageOut .h1 (setErr st (fatalCode .checksumMismatch)) (fatalOutcome .checksumMismatch)
      = (st &&& 0xFE3C) ||| 0x0082 := by
  apply BitVec.eq_of_getLsbD_eq; intro k hk
  interval_cases k <;> simp [setStageOut, setH1Out, setErr, fatalCode, fatalOutcome, outcomeCode]

theorem status_raise_h1_malformed :
    setStageOut .h1 (setErr st (fatalCode .malformedFrame)) (fatalOutcome .malformedFrame)
      = (st &&& 0xFE3C) ||| 0x00C2 := by
  apply BitVec.eq_of_getLsbD_eq; intro k hk
  interval_cases k <;> simp [setStageOut, setH1Out, setErr, fatalCode, fatalOutcome, outcomeCode]

theorem status_raise_h2_timeout :
    setStageOut .h2 (setErr st (fatalCode .handshakeTimeout)) (fatalOutcome .handshakeTimeout)
      = (st &&& 0xFE33) ||| 0x004C := by
  apply BitVec.eq_of_getLsbD_eq; intro k hk
  interval_cases k <;> simp [setStageOut, setH2Out, setErr, fatalCode, fatalOutcome, outcomeCode]

theorem status_raise_xf_timeout :
    setStageOut .xf (setErr st (fatalCode .handshakeTimeout)) (fatalOutcome .handshakeTimeout)
      = (st &&& 0xFE0F) ||| 0x0070 := by
  apply BitVec.eq_of_getLsbD_eq; intro k hk
  interval_cases k <;> simp [setStageOut, setXfOut, setErr, fatalCode, fatalOutcome, outcomeCode]

/-- What the success of a stage writes (R148, R166, R181). -/
theorem status_success_h1 : setStageOut .h1 st .success = (st &&& 0xFFFC) ||| 0x0001 := by
  apply BitVec.eq_of_getLsbD_eq; intro k hk
  interval_cases k <;> simp [setStageOut, setH1Out, outcomeCode]

theorem status_success_h2 : setStageOut .h2 st .success = (st &&& 0xFFF3) ||| 0x0004 := by
  apply BitVec.eq_of_getLsbD_eq; intro k hk
  interval_cases k <;> simp [setStageOut, setH2Out, outcomeCode]

theorem status_success_xf : setStageOut .xf st .success = (st &&& 0xFFCF) ||| 0x0010 := by
  apply BitVec.eq_of_getLsbD_eq; intro k hk
  interval_cases k <;> simp [setStageOut, setXfOut, outcomeCode]

/-- What an abandoned line writes (R187). -/
theorem status_lineTimeout : setErr st lineTimeoutCode = (st &&& 0xFE3F) ||| 0x0100 := by
  apply BitVec.eq_of_getLsbD_eq; intro k hk
  interval_cases k <;> simp [setErr, lineTimeoutCode]

end

end Sys2Proof.Machine
end

