-- ==== Sys2Proof/Laws/State.lean ====
section
/-! SUPPORT. One lemma per field per operation on the state, true by rfl, so that no later proof unfolds a record
update. -/

namespace Sys2Proof.Machine

variable (s : State)

/-! ### goTo -/

@[simp] theorem State.goTo_seq (q : Seq) : (s.goTo q).seq = q := rfl
@[simp] theorem State.goTo_crc (q : Seq) : (s.goTo q).crc = s.crc := rfl
@[simp] theorem State.goTo_rxcrc (q : Seq) : (s.goTo q).rxcrc = s.rxcrc := rfl
@[simp] theorem State.goTo_rxbuf (q : Seq) : (s.goTo q).rxbuf = s.rxbuf := rfl
@[simp] theorem State.goTo_txf (q : Seq) : (s.goTo q).txf = s.txf := rfl
@[simp] theorem State.goTo_pay (q : Seq) : (s.goTo q).pay = s.pay := rfl
@[simp] theorem State.goTo_li (q : Seq) : (s.goTo q).li = s.li := rfl
@[simp] theorem State.goTo_tmr (q : Seq) : (s.goTo q).tmr = s.tmr := rfl
@[simp] theorem State.goTo_status (q : Seq) : (s.goTo q).status = s.status := rfl
@[simp] theorem State.goTo_skipped (q : Seq) : (s.goTo q).skipped = s.skipped := rfl
@[simp] theorem State.goTo_rxq (q : Seq) : (s.goTo q).rxq = s.rxq := rfl
@[simp] theorem State.goTo_txs (q : Seq) : (s.goTo q).txs = s.txs := rfl
@[simp] theorem State.goTo_log (q : Seq) : (s.goTo q).log = s.log := rfl
@[simp] theorem State.goTo_src (q : Seq) : (s.goTo q).src = s.src := rfl
@[simp] theorem State.goTo_arr (q : Seq) : (s.goTo q).arr = s.arr := rfl
@[simp] theorem State.goTo_ticks (q : Seq) : (s.goTo q).ticks = s.ticks := rfl
@[simp] theorem State.goTo_cfg (q : Seq) : (s.goTo q).cfg = s.cfg := rfl
@[simp] theorem State.goTo_inputs (q : Seq) : (s.goTo q).inputs = s.inputs := rfl
@[simp] theorem State.goTo_recurring (q : Seq) : (s.goTo q).recurring = s.recurring := rfl
@[simp] theorem State.goTo_phase (q : Seq) : (s.goTo q).phase = .running := rfl
@[simp] theorem State.goTo_port (q : Seq) : (s.goTo q).port = s.port := rfl
@[simp] theorem State.goTo_res (q : Seq) : (s.goTo q).res = s.res := rfl
@[simp] theorem State.goTo_now (q : Seq) : (s.goTo q).now = s.now := rfl

/-! ### again -/

@[simp] theorem State.again_seq : (s.again).seq = s.seq := rfl
@[simp] theorem State.again_crc : (s.again).crc = s.crc := rfl
@[simp] theorem State.again_rxcrc : (s.again).rxcrc = s.rxcrc := rfl
@[simp] theorem State.again_rxbuf : (s.again).rxbuf = s.rxbuf := rfl
@[simp] theorem State.again_txf : (s.again).txf = s.txf := rfl
@[simp] theorem State.again_pay : (s.again).pay = s.pay := rfl
@[simp] theorem State.again_li : (s.again).li = s.li := rfl
@[simp] theorem State.again_tmr : (s.again).tmr = s.tmr := rfl
@[simp] theorem State.again_status : (s.again).status = s.status := rfl
@[simp] theorem State.again_skipped : (s.again).skipped = s.skipped := rfl
@[simp] theorem State.again_rxq : (s.again).rxq = s.rxq := rfl
@[simp] theorem State.again_txs : (s.again).txs = s.txs := rfl
@[simp] theorem State.again_log : (s.again).log = s.log := rfl
@[simp] theorem State.again_src : (s.again).src = s.src := rfl
@[simp] theorem State.again_arr : (s.again).arr = s.arr := rfl
@[simp] theorem State.again_ticks : (s.again).ticks = s.ticks := rfl
@[simp] theorem State.again_cfg : (s.again).cfg = s.cfg := rfl
@[simp] theorem State.again_inputs : (s.again).inputs = s.inputs := rfl
@[simp] theorem State.again_recurring : (s.again).recurring = s.recurring := rfl
@[simp] theorem State.again_phase : (s.again).phase = .running := rfl
@[simp] theorem State.again_port : (s.again).port = s.port := rfl
@[simp] theorem State.again_res : (s.again).res = s.res := rfl
@[simp] theorem State.again_now : (s.again).now = s.now := rfl

/-! ### block -/

@[simp] theorem State.block_seq : (s.block).seq = s.seq := rfl
@[simp] theorem State.block_crc : (s.block).crc = s.crc := rfl
@[simp] theorem State.block_rxcrc : (s.block).rxcrc = s.rxcrc := rfl
@[simp] theorem State.block_rxbuf : (s.block).rxbuf = s.rxbuf := rfl
@[simp] theorem State.block_txf : (s.block).txf = s.txf := rfl
@[simp] theorem State.block_pay : (s.block).pay = s.pay := rfl
@[simp] theorem State.block_li : (s.block).li = s.li := rfl
@[simp] theorem State.block_tmr : (s.block).tmr = s.tmr := rfl
@[simp] theorem State.block_status : (s.block).status = s.status := rfl
@[simp] theorem State.block_skipped : (s.block).skipped = s.skipped := rfl
@[simp] theorem State.block_rxq : (s.block).rxq = s.rxq := rfl
@[simp] theorem State.block_txs : (s.block).txs = s.txs := rfl
@[simp] theorem State.block_log : (s.block).log = s.log := rfl
@[simp] theorem State.block_src : (s.block).src = s.src := rfl
@[simp] theorem State.block_arr : (s.block).arr = s.arr := rfl
@[simp] theorem State.block_ticks : (s.block).ticks = s.ticks := rfl
@[simp] theorem State.block_cfg : (s.block).cfg = s.cfg := rfl
@[simp] theorem State.block_inputs : (s.block).inputs = s.inputs := rfl
@[simp] theorem State.block_recurring : (s.block).recurring = s.recurring := rfl
@[simp] theorem State.block_phase : (s.block).phase = .waiting := rfl
@[simp] theorem State.block_port : (s.block).port = s.port := rfl
@[simp] theorem State.block_res : (s.block).res = s.res := rfl
@[simp] theorem State.block_now : (s.block).now = s.now := rfl

/-! ### load -/

@[simp] theorem State.load_seq (n : Timer) : (s.load n).seq = s.seq := rfl
@[simp] theorem State.load_crc (n : Timer) : (s.load n).crc = s.crc := rfl
@[simp] theorem State.load_rxcrc (n : Timer) : (s.load n).rxcrc = s.rxcrc := rfl
@[simp] theorem State.load_rxbuf (n : Timer) : (s.load n).rxbuf = s.rxbuf := rfl
@[simp] theorem State.load_txf (n : Timer) : (s.load n).txf = s.txf := rfl
@[simp] theorem State.load_pay (n : Timer) : (s.load n).pay = s.pay := rfl
@[simp] theorem State.load_li (n : Timer) : (s.load n).li = s.li := rfl
@[simp] theorem State.load_tmr (n : Timer) : (s.load n).tmr = n := rfl
@[simp] theorem State.load_status (n : Timer) : (s.load n).status = s.status := rfl
@[simp] theorem State.load_skipped (n : Timer) : (s.load n).skipped = s.skipped := rfl
@[simp] theorem State.load_rxq (n : Timer) : (s.load n).rxq = s.rxq := rfl
@[simp] theorem State.load_txs (n : Timer) : (s.load n).txs = s.txs := rfl
@[simp] theorem State.load_log (n : Timer) : (s.load n).log = s.log := rfl
@[simp] theorem State.load_src (n : Timer) : (s.load n).src = s.src := rfl
@[simp] theorem State.load_arr (n : Timer) : (s.load n).arr = s.arr := rfl
@[simp] theorem State.load_ticks (n : Timer) : (s.load n).ticks = s.ticks := rfl
@[simp] theorem State.load_cfg (n : Timer) : (s.load n).cfg = s.cfg := rfl
@[simp] theorem State.load_inputs (n : Timer) : (s.load n).inputs = s.inputs := rfl
@[simp] theorem State.load_recurring (n : Timer) : (s.load n).recurring = s.recurring := rfl
@[simp] theorem State.load_phase (n : Timer) : (s.load n).phase = s.phase := rfl
@[simp] theorem State.load_port (n : Timer) : (s.load n).port = s.port := rfl
@[simp] theorem State.load_res (n : Timer) : (s.load n).res = s.res := rfl
@[simp] theorem State.load_now (n : Timer) : (s.load n).now = s.now := rfl

/-! ### rxDrop -/

@[simp] theorem State.rxDrop_seq (n : Nat) : (s.rxDrop n).seq = s.seq := rfl
@[simp] theorem State.rxDrop_crc (n : Nat) : (s.rxDrop n).crc = s.crc := rfl
@[simp] theorem State.rxDrop_rxcrc (n : Nat) : (s.rxDrop n).rxcrc = s.rxcrc := rfl
@[simp] theorem State.rxDrop_rxbuf (n : Nat) : (s.rxDrop n).rxbuf = s.rxbuf := rfl
@[simp] theorem State.rxDrop_txf (n : Nat) : (s.rxDrop n).txf = s.txf := rfl
@[simp] theorem State.rxDrop_pay (n : Nat) : (s.rxDrop n).pay = s.pay := rfl
@[simp] theorem State.rxDrop_li (n : Nat) : (s.rxDrop n).li = s.li := rfl
@[simp] theorem State.rxDrop_tmr (n : Nat) : (s.rxDrop n).tmr = s.tmr := rfl
@[simp] theorem State.rxDrop_status (n : Nat) : (s.rxDrop n).status = s.status := rfl
@[simp] theorem State.rxDrop_skipped (n : Nat) : (s.rxDrop n).skipped = s.skipped := rfl
@[simp] theorem State.rxDrop_rxq (n : Nat) : (s.rxDrop n).rxq = s.rxq.drop n := rfl
@[simp] theorem State.rxDrop_txs (n : Nat) : (s.rxDrop n).txs = s.txs := rfl
@[simp] theorem State.rxDrop_log (n : Nat) : (s.rxDrop n).log = s.log := rfl
@[simp] theorem State.rxDrop_src (n : Nat) : (s.rxDrop n).src = s.src := rfl
@[simp] theorem State.rxDrop_arr (n : Nat) : (s.rxDrop n).arr = s.arr := rfl
@[simp] theorem State.rxDrop_ticks (n : Nat) : (s.rxDrop n).ticks = s.ticks := rfl
@[simp] theorem State.rxDrop_cfg (n : Nat) : (s.rxDrop n).cfg = s.cfg := rfl
@[simp] theorem State.rxDrop_inputs (n : Nat) : (s.rxDrop n).inputs = s.inputs := rfl
@[simp] theorem State.rxDrop_recurring (n : Nat) : (s.rxDrop n).recurring = s.recurring := rfl
@[simp] theorem State.rxDrop_phase (n : Nat) : (s.rxDrop n).phase = s.phase := rfl
@[simp] theorem State.rxDrop_port (n : Nat) : (s.rxDrop n).port = s.port := rfl
@[simp] theorem State.rxDrop_res (n : Nat) : (s.rxDrop n).res = s.res := rfl
@[simp] theorem State.rxDrop_now (n : Nat) : (s.rxDrop n).now = s.now := rfl

/-! ### rxClear -/

@[simp] theorem State.rxClear_seq : (s.rxClear).seq = s.seq := rfl
@[simp] theorem State.rxClear_crc : (s.rxClear).crc = s.crc := rfl
@[simp] theorem State.rxClear_rxcrc : (s.rxClear).rxcrc = s.rxcrc := rfl
@[simp] theorem State.rxClear_rxbuf : (s.rxClear).rxbuf = s.rxbuf := rfl
@[simp] theorem State.rxClear_txf : (s.rxClear).txf = s.txf := rfl
@[simp] theorem State.rxClear_pay : (s.rxClear).pay = s.pay := rfl
@[simp] theorem State.rxClear_li : (s.rxClear).li = s.li := rfl
@[simp] theorem State.rxClear_tmr : (s.rxClear).tmr = s.tmr := rfl
@[simp] theorem State.rxClear_status : (s.rxClear).status = s.status := rfl
@[simp] theorem State.rxClear_skipped : (s.rxClear).skipped = s.skipped := rfl
@[simp] theorem State.rxClear_rxq : (s.rxClear).rxq = [] := rfl
@[simp] theorem State.rxClear_txs : (s.rxClear).txs = s.txs := rfl
@[simp] theorem State.rxClear_log : (s.rxClear).log = s.log := rfl
@[simp] theorem State.rxClear_src : (s.rxClear).src = s.src := rfl
@[simp] theorem State.rxClear_arr : (s.rxClear).arr = s.arr := rfl
@[simp] theorem State.rxClear_ticks : (s.rxClear).ticks = s.ticks := rfl
@[simp] theorem State.rxClear_cfg : (s.rxClear).cfg = s.cfg := rfl
@[simp] theorem State.rxClear_inputs : (s.rxClear).inputs = s.inputs := rfl
@[simp] theorem State.rxClear_recurring : (s.rxClear).recurring = s.recurring := rfl
@[simp] theorem State.rxClear_phase : (s.rxClear).phase = s.phase := rfl
@[simp] theorem State.rxClear_port : (s.rxClear).port = s.port := rfl
@[simp] theorem State.rxClear_res : (s.rxClear).res = s.res := rfl
@[simp] theorem State.rxClear_now : (s.rxClear).now = s.now := rfl

/-! ### txWrite -/

@[simp] theorem State.txWrite_seq (bs : List Byte) : (s.txWrite bs).seq = s.seq := rfl
@[simp] theorem State.txWrite_crc (bs : List Byte) : (s.txWrite bs).crc = s.crc := rfl
@[simp] theorem State.txWrite_rxcrc (bs : List Byte) : (s.txWrite bs).rxcrc = s.rxcrc := rfl
@[simp] theorem State.txWrite_rxbuf (bs : List Byte) : (s.txWrite bs).rxbuf = s.rxbuf := rfl
@[simp] theorem State.txWrite_txf (bs : List Byte) : (s.txWrite bs).txf = s.txf := rfl
@[simp] theorem State.txWrite_pay (bs : List Byte) : (s.txWrite bs).pay = s.pay := rfl
@[simp] theorem State.txWrite_li (bs : List Byte) : (s.txWrite bs).li = s.li := rfl
@[simp] theorem State.txWrite_tmr (bs : List Byte) : (s.txWrite bs).tmr = s.tmr := rfl
@[simp] theorem State.txWrite_status (bs : List Byte) : (s.txWrite bs).status = s.status := rfl
@[simp] theorem State.txWrite_skipped (bs : List Byte) : (s.txWrite bs).skipped = s.skipped := rfl
@[simp] theorem State.txWrite_rxq (bs : List Byte) : (s.txWrite bs).rxq = s.rxq := rfl
@[simp] theorem State.txWrite_txs (bs : List Byte) : (s.txWrite bs).txs = s.txs ++ bs.map fun b => (s.now, b) := rfl
@[simp] theorem State.txWrite_log (bs : List Byte) : (s.txWrite bs).log = s.log := rfl
@[simp] theorem State.txWrite_src (bs : List Byte) : (s.txWrite bs).src = s.src := rfl
@[simp] theorem State.txWrite_arr (bs : List Byte) : (s.txWrite bs).arr = s.arr := rfl
@[simp] theorem State.txWrite_ticks (bs : List Byte) : (s.txWrite bs).ticks = s.ticks := rfl
@[simp] theorem State.txWrite_cfg (bs : List Byte) : (s.txWrite bs).cfg = s.cfg := rfl
@[simp] theorem State.txWrite_inputs (bs : List Byte) : (s.txWrite bs).inputs = s.inputs := rfl
@[simp] theorem State.txWrite_recurring (bs : List Byte) : (s.txWrite bs).recurring = s.recurring := rfl
@[simp] theorem State.txWrite_phase (bs : List Byte) : (s.txWrite bs).phase = s.phase := rfl
@[simp] theorem State.txWrite_port (bs : List Byte) : (s.txWrite bs).port = s.port := rfl
@[simp] theorem State.txWrite_res (bs : List Byte) : (s.txWrite bs).res = s.res := rfl
@[simp] theorem State.txWrite_now (bs : List Byte) : (s.txWrite bs).now = s.now := rfl

/-! ### txFlush -/

@[simp] theorem State.txFlush_seq : (s.txFlush).seq = s.seq := rfl
@[simp] theorem State.txFlush_crc : (s.txFlush).crc = s.crc := rfl
@[simp] theorem State.txFlush_rxcrc : (s.txFlush).rxcrc = s.rxcrc := rfl
@[simp] theorem State.txFlush_rxbuf : (s.txFlush).rxbuf = s.rxbuf := rfl
@[simp] theorem State.txFlush_txf : (s.txFlush).txf = s.txf := rfl
@[simp] theorem State.txFlush_pay : (s.txFlush).pay = s.pay := rfl
@[simp] theorem State.txFlush_li : (s.txFlush).li = s.li := rfl
@[simp] theorem State.txFlush_tmr : (s.txFlush).tmr = s.tmr := rfl
@[simp] theorem State.txFlush_status : (s.txFlush).status = s.status := rfl
@[simp] theorem State.txFlush_skipped : (s.txFlush).skipped = s.skipped := rfl
@[simp] theorem State.txFlush_rxq : (s.txFlush).rxq = s.rxq := rfl
@[simp] theorem State.txFlush_txs : (s.txFlush).txs = s.txs := rfl
@[simp] theorem State.txFlush_log : (s.txFlush).log = s.log := rfl
@[simp] theorem State.txFlush_src : (s.txFlush).src = s.src := rfl
@[simp] theorem State.txFlush_arr : (s.txFlush).arr = s.arr := rfl
@[simp] theorem State.txFlush_ticks : (s.txFlush).ticks = s.ticks := rfl
@[simp] theorem State.txFlush_cfg : (s.txFlush).cfg = s.cfg := rfl
@[simp] theorem State.txFlush_inputs : (s.txFlush).inputs = s.inputs := rfl
@[simp] theorem State.txFlush_recurring : (s.txFlush).recurring = s.recurring := rfl
@[simp] theorem State.txFlush_phase : (s.txFlush).phase = s.phase := rfl
@[simp] theorem State.txFlush_port : (s.txFlush).port = s.port := rfl
@[simp] theorem State.txFlush_res : (s.txFlush).res = s.res := rfl
@[simp] theorem State.txFlush_now : (s.txFlush).now = s.now := rfl

/-! ### txClear -/

@[simp] theorem State.txClear_seq : (s.txClear).seq = s.seq := rfl
@[simp] theorem State.txClear_crc : (s.txClear).crc = s.crc := rfl
@[simp] theorem State.txClear_rxcrc : (s.txClear).rxcrc = s.rxcrc := rfl
@[simp] theorem State.txClear_rxbuf : (s.txClear).rxbuf = s.rxbuf := rfl
@[simp] theorem State.txClear_txf : (s.txClear).txf = s.txf := rfl
@[simp] theorem State.txClear_pay : (s.txClear).pay = s.pay := rfl
@[simp] theorem State.txClear_li : (s.txClear).li = s.li := rfl
@[simp] theorem State.txClear_tmr : (s.txClear).tmr = s.tmr := rfl
@[simp] theorem State.txClear_status : (s.txClear).status = s.status := rfl
@[simp] theorem State.txClear_skipped : (s.txClear).skipped = s.skipped := rfl
@[simp] theorem State.txClear_rxq : (s.txClear).rxq = s.rxq := rfl
@[simp] theorem State.txClear_txs : (s.txClear).txs = s.txs := rfl
@[simp] theorem State.txClear_log : (s.txClear).log = s.log := rfl
@[simp] theorem State.txClear_src : (s.txClear).src = s.src := rfl
@[simp] theorem State.txClear_arr : (s.txClear).arr = s.arr := rfl
@[simp] theorem State.txClear_ticks : (s.txClear).ticks = s.ticks := rfl
@[simp] theorem State.txClear_cfg : (s.txClear).cfg = s.cfg := rfl
@[simp] theorem State.txClear_inputs : (s.txClear).inputs = s.inputs := rfl
@[simp] theorem State.txClear_recurring : (s.txClear).recurring = s.recurring := rfl
@[simp] theorem State.txClear_phase : (s.txClear).phase = s.phase := rfl
@[simp] theorem State.txClear_port : (s.txClear).port = s.port := rfl
@[simp] theorem State.txClear_res : (s.txClear).res = s.res := rfl
@[simp] theorem State.txClear_now : (s.txClear).now = s.now := rfl

/-! ### logEvent -/

@[simp] theorem State.logEvent_seq (ev : Event) (a : Word) : (s.logEvent ev a).seq = s.seq := rfl
@[simp] theorem State.logEvent_crc (ev : Event) (a : Word) : (s.logEvent ev a).crc = s.crc := rfl
@[simp] theorem State.logEvent_rxcrc (ev : Event) (a : Word) : (s.logEvent ev a).rxcrc = s.rxcrc := rfl
@[simp] theorem State.logEvent_rxbuf (ev : Event) (a : Word) : (s.logEvent ev a).rxbuf = s.rxbuf := rfl
@[simp] theorem State.logEvent_txf (ev : Event) (a : Word) : (s.logEvent ev a).txf = s.txf := rfl
@[simp] theorem State.logEvent_pay (ev : Event) (a : Word) : (s.logEvent ev a).pay = s.pay := rfl
@[simp] theorem State.logEvent_li (ev : Event) (a : Word) : (s.logEvent ev a).li = s.li := rfl
@[simp] theorem State.logEvent_tmr (ev : Event) (a : Word) : (s.logEvent ev a).tmr = s.tmr := rfl
@[simp] theorem State.logEvent_status (ev : Event) (a : Word) : (s.logEvent ev a).status = s.status := rfl
@[simp] theorem State.logEvent_skipped (ev : Event) (a : Word) : (s.logEvent ev a).skipped = s.skipped := rfl
@[simp] theorem State.logEvent_rxq (ev : Event) (a : Word) : (s.logEvent ev a).rxq = s.rxq := rfl
@[simp] theorem State.logEvent_txs (ev : Event) (a : Word) : (s.logEvent ev a).txs = s.txs := rfl
@[simp] theorem State.logEvent_log (ev : Event) (a : Word) : (s.logEvent ev a).log = s.log ++ [⟨s.now, ev, a⟩] := rfl
@[simp] theorem State.logEvent_src (ev : Event) (a : Word) : (s.logEvent ev a).src = s.src := rfl
@[simp] theorem State.logEvent_arr (ev : Event) (a : Word) : (s.logEvent ev a).arr = s.arr := rfl
@[simp] theorem State.logEvent_ticks (ev : Event) (a : Word) : (s.logEvent ev a).ticks = s.ticks := rfl
@[simp] theorem State.logEvent_cfg (ev : Event) (a : Word) : (s.logEvent ev a).cfg = s.cfg := rfl
@[simp] theorem State.logEvent_inputs (ev : Event) (a : Word) : (s.logEvent ev a).inputs = s.inputs := rfl
@[simp] theorem State.logEvent_recurring (ev : Event) (a : Word) : (s.logEvent ev a).recurring = s.recurring := rfl
@[simp] theorem State.logEvent_phase (ev : Event) (a : Word) : (s.logEvent ev a).phase = s.phase := rfl
@[simp] theorem State.logEvent_port (ev : Event) (a : Word) : (s.logEvent ev a).port = s.port := rfl
@[simp] theorem State.logEvent_res (ev : Event) (a : Word) : (s.logEvent ev a).res = s.res := rfl
@[simp] theorem State.logEvent_now (ev : Event) (a : Word) : (s.logEvent ev a).now = s.now := rfl

/-! ### raise -/

@[simp] theorem State.raise_seq (x : Stage) (k : FatalKind) : (s.raise x k).seq = doneState x := rfl
@[simp] theorem State.raise_crc (x : Stage) (k : FatalKind) : (s.raise x k).crc = s.crc := rfl
@[simp] theorem State.raise_rxcrc (x : Stage) (k : FatalKind) : (s.raise x k).rxcrc = s.rxcrc := rfl
@[simp] theorem State.raise_rxbuf (x : Stage) (k : FatalKind) : (s.raise x k).rxbuf = s.rxbuf := rfl
@[simp] theorem State.raise_txf (x : Stage) (k : FatalKind) : (s.raise x k).txf = s.txf := rfl
@[simp] theorem State.raise_pay (x : Stage) (k : FatalKind) : (s.raise x k).pay = s.pay := rfl
@[simp] theorem State.raise_li (x : Stage) (k : FatalKind) : (s.raise x k).li = s.li := rfl
@[simp] theorem State.raise_tmr (x : Stage) (k : FatalKind) : (s.raise x k).tmr = s.tmr := rfl
@[simp] theorem State.raise_status (x : Stage) (k : FatalKind) : (s.raise x k).status = setStageOut x (setErr s.status (fatalCode k)) (fatalOutcome k) := rfl
@[simp] theorem State.raise_skipped (x : Stage) (k : FatalKind) : (s.raise x k).skipped = s.skipped := rfl
@[simp] theorem State.raise_rxq (x : Stage) (k : FatalKind) : (s.raise x k).rxq = s.rxq := rfl
@[simp] theorem State.raise_txs (x : Stage) (k : FatalKind) : (s.raise x k).txs = s.txs := rfl
@[simp] theorem State.raise_log (x : Stage) (k : FatalKind) : (s.raise x k).log = s.log ++ [⟨s.now, failEvent x, (fatalCode k).setWidth 16⟩] := rfl
@[simp] theorem State.raise_src (x : Stage) (k : FatalKind) : (s.raise x k).src = s.src := rfl
@[simp] theorem State.raise_arr (x : Stage) (k : FatalKind) : (s.raise x k).arr = s.arr := rfl
@[simp] theorem State.raise_ticks (x : Stage) (k : FatalKind) : (s.raise x k).ticks = s.ticks := rfl
@[simp] theorem State.raise_cfg (x : Stage) (k : FatalKind) : (s.raise x k).cfg = s.cfg := rfl
@[simp] theorem State.raise_inputs (x : Stage) (k : FatalKind) : (s.raise x k).inputs = s.inputs := rfl
@[simp] theorem State.raise_recurring (x : Stage) (k : FatalKind) : (s.raise x k).recurring = s.recurring := rfl
@[simp] theorem State.raise_phase (x : Stage) (k : FatalKind) : (s.raise x k).phase = .running := rfl
@[simp] theorem State.raise_port (x : Stage) (k : FatalKind) : (s.raise x k).port = s.port := rfl
@[simp] theorem State.raise_res (x : Stage) (k : FatalKind) : (s.raise x k).res = s.res := rfl
@[simp] theorem State.raise_now (x : Stage) (k : FatalKind) : (s.raise x k).now = s.now := rfl

/-! ### lineTimeout -/

@[simp] theorem State.lineTimeout_seq : (s.lineTimeout).seq = .xfNextLine := rfl
@[simp] theorem State.lineTimeout_crc : (s.lineTimeout).crc = s.crc := rfl
@[simp] theorem State.lineTimeout_rxcrc : (s.lineTimeout).rxcrc = s.rxcrc := rfl
@[simp] theorem State.lineTimeout_rxbuf : (s.lineTimeout).rxbuf = s.rxbuf := rfl
@[simp] theorem State.lineTimeout_txf : (s.lineTimeout).txf = s.txf := rfl
@[simp] theorem State.lineTimeout_pay : (s.lineTimeout).pay = s.pay := rfl
@[simp] theorem State.lineTimeout_li : (s.lineTimeout).li = s.li + 1 := rfl
@[simp] theorem State.lineTimeout_tmr : (s.lineTimeout).tmr = s.tmr := rfl
@[simp] theorem State.lineTimeout_status : (s.lineTimeout).status = setErr s.status lineTimeoutCode := rfl
@[simp] theorem State.lineTimeout_skipped : (s.lineTimeout).skipped = s.skipped + 1 := rfl
@[simp] theorem State.lineTimeout_rxq : (s.lineTimeout).rxq = s.rxq := rfl
@[simp] theorem State.lineTimeout_txs : (s.lineTimeout).txs = s.txs := rfl
@[simp] theorem State.lineTimeout_log : (s.lineTimeout).log = s.log ++ [⟨s.now, .xfLineTimeout, s.li⟩] := rfl
@[simp] theorem State.lineTimeout_src : (s.lineTimeout).src = s.src := rfl
@[simp] theorem State.lineTimeout_arr : (s.lineTimeout).arr = s.arr := rfl
@[simp] theorem State.lineTimeout_ticks : (s.lineTimeout).ticks = s.ticks := rfl
@[simp] theorem State.lineTimeout_cfg : (s.lineTimeout).cfg = s.cfg := rfl
@[simp] theorem State.lineTimeout_inputs : (s.lineTimeout).inputs = s.inputs := rfl
@[simp] theorem State.lineTimeout_recurring : (s.lineTimeout).recurring = s.recurring := rfl
@[simp] theorem State.lineTimeout_phase : (s.lineTimeout).phase = .running := rfl
@[simp] theorem State.lineTimeout_port : (s.lineTimeout).port = s.port := rfl
@[simp] theorem State.lineTimeout_res : (s.lineTimeout).res = s.res := rfl
@[simp] theorem State.lineTimeout_now : (s.lineTimeout).now = s.now := rfl

/-! ### arrive -/

@[simp] theorem State.arrive_seq (bs : List Byte) : (s.arrive bs).seq = s.seq := rfl
@[simp] theorem State.arrive_crc (bs : List Byte) : (s.arrive bs).crc = s.crc := rfl
@[simp] theorem State.arrive_rxcrc (bs : List Byte) : (s.arrive bs).rxcrc = s.rxcrc := rfl
@[simp] theorem State.arrive_rxbuf (bs : List Byte) : (s.arrive bs).rxbuf = s.rxbuf := rfl
@[simp] theorem State.arrive_txf (bs : List Byte) : (s.arrive bs).txf = s.txf := rfl
@[simp] theorem State.arrive_pay (bs : List Byte) : (s.arrive bs).pay = s.pay := rfl
@[simp] theorem State.arrive_li (bs : List Byte) : (s.arrive bs).li = s.li := rfl
@[simp] theorem State.arrive_tmr (bs : List Byte) : (s.arrive bs).tmr = s.tmr := rfl
@[simp] theorem State.arrive_status (bs : List Byte) : (s.arrive bs).status = s.status := rfl
@[simp] theorem State.arrive_skipped (bs : List Byte) : (s.arrive bs).skipped = s.skipped := rfl
@[simp] theorem State.arrive_rxq (bs : List Byte) : (s.arrive bs).rxq = s.rxq := rfl
@[simp] theorem State.arrive_txs (bs : List Byte) : (s.arrive bs).txs = s.txs := rfl
@[simp] theorem State.arrive_log (bs : List Byte) : (s.arrive bs).log = s.log := rfl
@[simp] theorem State.arrive_src (bs : List Byte) : (s.arrive bs).src = s.src := rfl
@[simp] theorem State.arrive_arr (bs : List Byte) : (s.arrive bs).arr = s.arr ++ bs := rfl
@[simp] theorem State.arrive_ticks (bs : List Byte) : (s.arrive bs).ticks = s.ticks := rfl
@[simp] theorem State.arrive_cfg (bs : List Byte) : (s.arrive bs).cfg = s.cfg := rfl
@[simp] theorem State.arrive_inputs (bs : List Byte) : (s.arrive bs).inputs = s.inputs := rfl
@[simp] theorem State.arrive_recurring (bs : List Byte) : (s.arrive bs).recurring = s.recurring := rfl
@[simp] theorem State.arrive_phase (bs : List Byte) : (s.arrive bs).phase = s.phase := rfl
@[simp] theorem State.arrive_port (bs : List Byte) : (s.arrive bs).port = s.port := rfl
@[simp] theorem State.arrive_res (bs : List Byte) : (s.arrive bs).res = s.res := rfl
@[simp] theorem State.arrive_now (bs : List Byte) : (s.arrive bs).now = s.now := rfl

/-! ### beginTick -/

@[simp] theorem State.beginTick_seq : (s.beginTick).seq = s.seq := rfl
@[simp] theorem State.beginTick_crc : (s.beginTick).crc = s.crc := rfl
@[simp] theorem State.beginTick_rxcrc : (s.beginTick).rxcrc = s.rxcrc := rfl
@[simp] theorem State.beginTick_rxbuf : (s.beginTick).rxbuf = s.rxbuf := rfl
@[simp] theorem State.beginTick_txf : (s.beginTick).txf = s.txf := rfl
@[simp] theorem State.beginTick_pay : (s.beginTick).pay = s.pay := rfl
@[simp] theorem State.beginTick_li : (s.beginTick).li = s.li := rfl
@[simp] theorem State.beginTick_tmr : (s.beginTick).tmr = s.tmr := rfl
@[simp] theorem State.beginTick_status : (s.beginTick).status = s.status := rfl
@[simp] theorem State.beginTick_skipped : (s.beginTick).skipped = s.skipped := rfl
@[simp] theorem State.beginTick_rxq : (s.beginTick).rxq = s.rxq ++ s.arr := rfl
@[simp] theorem State.beginTick_txs : (s.beginTick).txs = s.txs := rfl
@[simp] theorem State.beginTick_log : (s.beginTick).log = s.log := rfl
@[simp] theorem State.beginTick_src : (s.beginTick).src = s.src := rfl
@[simp] theorem State.beginTick_arr : (s.beginTick).arr = [] := rfl
@[simp] theorem State.beginTick_ticks : (s.beginTick).ticks = s.ticks + 1 := rfl
@[simp] theorem State.beginTick_cfg : (s.beginTick).cfg = s.cfg := rfl
@[simp] theorem State.beginTick_inputs : (s.beginTick).inputs = s.inputs := rfl
@[simp] theorem State.beginTick_recurring : (s.beginTick).recurring = s.recurring := rfl
@[simp] theorem State.beginTick_phase : (s.beginTick).phase = .running := rfl
@[simp] theorem State.beginTick_port : (s.beginTick).port = s.port := rfl
@[simp] theorem State.beginTick_res : (s.beginTick).res = s.res := rfl

/-! ### rst -/

@[simp] theorem State.rst_seq : (s.rst).seq = .cycleStart := rfl
@[simp] theorem State.rst_crc : (s.rst).crc = 0 := rfl
@[simp] theorem State.rst_rxcrc : (s.rst).rxcrc = 0 := rfl
@[simp] theorem State.rst_rxbuf : (s.rst).rxbuf = [] := rfl
@[simp] theorem State.rst_txf : (s.rst).txf = [] := rfl
@[simp] theorem State.rst_pay : (s.rst).pay = [] := rfl
@[simp] theorem State.rst_li : (s.rst).li = 0 := rfl
@[simp] theorem State.rst_tmr : (s.rst).tmr = 0 := rfl
@[simp] theorem State.rst_status : (s.rst).status = 0 := rfl
@[simp] theorem State.rst_skipped : (s.rst).skipped = 0 := rfl
@[simp] theorem State.rst_rxq : (s.rst).rxq = s.rxq := rfl
@[simp] theorem State.rst_txs : (s.rst).txs = s.txs := rfl
@[simp] theorem State.rst_log : (s.rst).log = s.log := rfl
@[simp] theorem State.rst_src : (s.rst).src = s.src := rfl
@[simp] theorem State.rst_arr : (s.rst).arr = s.arr := rfl
@[simp] theorem State.rst_ticks : (s.rst).ticks = 0 := rfl
@[simp] theorem State.rst_cfg : (s.rst).cfg = s.cfg := rfl
@[simp] theorem State.rst_inputs : (s.rst).inputs = s.inputs := rfl
@[simp] theorem State.rst_recurring : (s.rst).recurring = s.recurring := rfl
@[simp] theorem State.rst_phase : (s.rst).phase = .waiting := rfl
@[simp] theorem State.rst_port : (s.rst).port = s.port := rfl
@[simp] theorem State.rst_res : (s.rst).res = s.res := rfl

/-! ### setSource -/

@[simp] theorem State.setSource_seq (ls : List Line) : (s.setSource ls).seq = s.seq := rfl
@[simp] theorem State.setSource_crc (ls : List Line) : (s.setSource ls).crc = s.crc := rfl
@[simp] theorem State.setSource_rxcrc (ls : List Line) : (s.setSource ls).rxcrc = s.rxcrc := rfl
@[simp] theorem State.setSource_rxbuf (ls : List Line) : (s.setSource ls).rxbuf = s.rxbuf := rfl
@[simp] theorem State.setSource_txf (ls : List Line) : (s.setSource ls).txf = s.txf := rfl
@[simp] theorem State.setSource_pay (ls : List Line) : (s.setSource ls).pay = s.pay := rfl
@[simp] theorem State.setSource_li (ls : List Line) : (s.setSource ls).li = s.li := rfl
@[simp] theorem State.setSource_tmr (ls : List Line) : (s.setSource ls).tmr = s.tmr := rfl
@[simp] theorem State.setSource_status (ls : List Line) : (s.setSource ls).status = s.status := rfl
@[simp] theorem State.setSource_skipped (ls : List Line) : (s.setSource ls).skipped = s.skipped := rfl
@[simp] theorem State.setSource_rxq (ls : List Line) : (s.setSource ls).rxq = s.rxq := rfl
@[simp] theorem State.setSource_txs (ls : List Line) : (s.setSource ls).txs = s.txs := rfl
@[simp] theorem State.setSource_log (ls : List Line) : (s.setSource ls).log = s.log := rfl
@[simp] theorem State.setSource_src (ls : List Line) : (s.setSource ls).src = ls := rfl
@[simp] theorem State.setSource_arr (ls : List Line) : (s.setSource ls).arr = s.arr := rfl
@[simp] theorem State.setSource_ticks (ls : List Line) : (s.setSource ls).ticks = s.ticks := rfl
@[simp] theorem State.setSource_cfg (ls : List Line) : (s.setSource ls).cfg = s.cfg := rfl
@[simp] theorem State.setSource_inputs (ls : List Line) : (s.setSource ls).inputs = s.inputs := rfl
@[simp] theorem State.setSource_recurring (ls : List Line) : (s.setSource ls).recurring = s.recurring := rfl
@[simp] theorem State.setSource_phase (ls : List Line) : (s.setSource ls).phase = s.phase := rfl
@[simp] theorem State.setSource_port (ls : List Line) : (s.setSource ls).port = s.port := rfl
@[simp] theorem State.setSource_res (ls : List Line) : (s.setSource ls).res = s.res := rfl
@[simp] theorem State.setSource_now (ls : List Line) : (s.setSource ls).now = s.now := rfl

/-! ### crcClear -/

@[simp] theorem State.crcClear_seq : (s.crcClear).seq = s.seq := rfl
@[simp] theorem State.crcClear_crc : (s.crcClear).crc = crcInit := rfl
@[simp] theorem State.crcClear_rxcrc : (s.crcClear).rxcrc = s.rxcrc := rfl
@[simp] theorem State.crcClear_rxbuf : (s.crcClear).rxbuf = s.rxbuf := rfl
@[simp] theorem State.crcClear_txf : (s.crcClear).txf = s.txf := rfl
@[simp] theorem State.crcClear_pay : (s.crcClear).pay = s.pay := rfl
@[simp] theorem State.crcClear_li : (s.crcClear).li = s.li := rfl
@[simp] theorem State.crcClear_tmr : (s.crcClear).tmr = s.tmr := rfl
@[simp] theorem State.crcClear_status : (s.crcClear).status = s.status := rfl
@[simp] theorem State.crcClear_skipped : (s.crcClear).skipped = s.skipped := rfl
@[simp] theorem State.crcClear_rxq : (s.crcClear).rxq = s.rxq := rfl
@[simp] theorem State.crcClear_txs : (s.crcClear).txs = s.txs := rfl
@[simp] theorem State.crcClear_log : (s.crcClear).log = s.log := rfl
@[simp] theorem State.crcClear_src : (s.crcClear).src = s.src := rfl
@[simp] theorem State.crcClear_arr : (s.crcClear).arr = s.arr := rfl
@[simp] theorem State.crcClear_ticks : (s.crcClear).ticks = s.ticks := rfl
@[simp] theorem State.crcClear_cfg : (s.crcClear).cfg = s.cfg := rfl
@[simp] theorem State.crcClear_inputs : (s.crcClear).inputs = s.inputs := rfl
@[simp] theorem State.crcClear_recurring : (s.crcClear).recurring = s.recurring := rfl
@[simp] theorem State.crcClear_phase : (s.crcClear).phase = s.phase := rfl
@[simp] theorem State.crcClear_port : (s.crcClear).port = s.port := rfl
@[simp] theorem State.crcClear_res : (s.crcClear).res = s.res := rfl
@[simp] theorem State.crcClear_now : (s.crcClear).now = s.now := rfl

/-! ### crcFeed -/

@[simp] theorem State.crcFeed_seq (b : Byte) : (s.crcFeed b).seq = s.seq := rfl
@[simp] theorem State.crcFeed_crc (b : Byte) : (s.crcFeed b).crc = crcByte s.crc b := rfl
@[simp] theorem State.crcFeed_rxcrc (b : Byte) : (s.crcFeed b).rxcrc = s.rxcrc := rfl
@[simp] theorem State.crcFeed_rxbuf (b : Byte) : (s.crcFeed b).rxbuf = s.rxbuf := rfl
@[simp] theorem State.crcFeed_txf (b : Byte) : (s.crcFeed b).txf = s.txf := rfl
@[simp] theorem State.crcFeed_pay (b : Byte) : (s.crcFeed b).pay = s.pay := rfl
@[simp] theorem State.crcFeed_li (b : Byte) : (s.crcFeed b).li = s.li := rfl
@[simp] theorem State.crcFeed_tmr (b : Byte) : (s.crcFeed b).tmr = s.tmr := rfl
@[simp] theorem State.crcFeed_status (b : Byte) : (s.crcFeed b).status = s.status := rfl
@[simp] theorem State.crcFeed_skipped (b : Byte) : (s.crcFeed b).skipped = s.skipped := rfl
@[simp] theorem State.crcFeed_rxq (b : Byte) : (s.crcFeed b).rxq = s.rxq := rfl
@[simp] theorem State.crcFeed_txs (b : Byte) : (s.crcFeed b).txs = s.txs := rfl
@[simp] theorem State.crcFeed_log (b : Byte) : (s.crcFeed b).log = s.log := rfl
@[simp] theorem State.crcFeed_src (b : Byte) : (s.crcFeed b).src = s.src := rfl
@[simp] theorem State.crcFeed_arr (b : Byte) : (s.crcFeed b).arr = s.arr := rfl
@[simp] theorem State.crcFeed_ticks (b : Byte) : (s.crcFeed b).ticks = s.ticks := rfl
@[simp] theorem State.crcFeed_cfg (b : Byte) : (s.crcFeed b).cfg = s.cfg := rfl
@[simp] theorem State.crcFeed_inputs (b : Byte) : (s.crcFeed b).inputs = s.inputs := rfl
@[simp] theorem State.crcFeed_recurring (b : Byte) : (s.crcFeed b).recurring = s.recurring := rfl
@[simp] theorem State.crcFeed_phase (b : Byte) : (s.crcFeed b).phase = s.phase := rfl
@[simp] theorem State.crcFeed_port (b : Byte) : (s.crcFeed b).port = s.port := rfl
@[simp] theorem State.crcFeed_res (b : Byte) : (s.crcFeed b).res = s.res := rfl
@[simp] theorem State.crcFeed_now (b : Byte) : (s.crcFeed b).now = s.now := rfl

/-! ### crcFoldOver -/

@[simp] theorem State.crcFoldOver_seq (bs : List Byte) (xm : Xm) : (s.crcFoldOver bs xm).seq = s.seq := rfl
@[simp] theorem State.crcFoldOver_crc (bs : List Byte) (xm : Xm) : (s.crcFoldOver bs xm).crc = crcOf xm bs := rfl
@[simp] theorem State.crcFoldOver_rxcrc (bs : List Byte) (xm : Xm) : (s.crcFoldOver bs xm).rxcrc = s.rxcrc := rfl
@[simp] theorem State.crcFoldOver_rxbuf (bs : List Byte) (xm : Xm) : (s.crcFoldOver bs xm).rxbuf = s.rxbuf := rfl
@[simp] theorem State.crcFoldOver_txf (bs : List Byte) (xm : Xm) : (s.crcFoldOver bs xm).txf = s.txf := rfl
@[simp] theorem State.crcFoldOver_pay (bs : List Byte) (xm : Xm) : (s.crcFoldOver bs xm).pay = s.pay := rfl
@[simp] theorem State.crcFoldOver_li (bs : List Byte) (xm : Xm) : (s.crcFoldOver bs xm).li = s.li := rfl
@[simp] theorem State.crcFoldOver_tmr (bs : List Byte) (xm : Xm) : (s.crcFoldOver bs xm).tmr = s.tmr := rfl
@[simp] theorem State.crcFoldOver_status (bs : List Byte) (xm : Xm) : (s.crcFoldOver bs xm).status = s.status := rfl
@[simp] theorem State.crcFoldOver_skipped (bs : List Byte) (xm : Xm) : (s.crcFoldOver bs xm).skipped = s.skipped := rfl
@[simp] theorem State.crcFoldOver_rxq (bs : List Byte) (xm : Xm) : (s.crcFoldOver bs xm).rxq = s.rxq := rfl
@[simp] theorem State.crcFoldOver_txs (bs : List Byte) (xm : Xm) : (s.crcFoldOver bs xm).txs = s.txs := rfl
@[simp] theorem State.crcFoldOver_log (bs : List Byte) (xm : Xm) : (s.crcFoldOver bs xm).log = s.log := rfl
@[simp] theorem State.crcFoldOver_src (bs : List Byte) (xm : Xm) : (s.crcFoldOver bs xm).src = s.src := rfl
@[simp] theorem State.crcFoldOver_arr (bs : List Byte) (xm : Xm) : (s.crcFoldOver bs xm).arr = s.arr := rfl
@[simp] theorem State.crcFoldOver_ticks (bs : List Byte) (xm : Xm) : (s.crcFoldOver bs xm).ticks = s.ticks := rfl
@[simp] theorem State.crcFoldOver_cfg (bs : List Byte) (xm : Xm) : (s.crcFoldOver bs xm).cfg = s.cfg := rfl
@[simp] theorem State.crcFoldOver_inputs (bs : List Byte) (xm : Xm) : (s.crcFoldOver bs xm).inputs = s.inputs := rfl
@[simp] theorem State.crcFoldOver_recurring (bs : List Byte) (xm : Xm) : (s.crcFoldOver bs xm).recurring = s.recurring := rfl
@[simp] theorem State.crcFoldOver_phase (bs : List Byte) (xm : Xm) : (s.crcFoldOver bs xm).phase = s.phase := rfl
@[simp] theorem State.crcFoldOver_port (bs : List Byte) (xm : Xm) : (s.crcFoldOver bs xm).port = s.port := rfl
@[simp] theorem State.crcFoldOver_res (bs : List Byte) (xm : Xm) : (s.crcFoldOver bs xm).res = s.res := rfl
@[simp] theorem State.crcFoldOver_now (bs : List Byte) (xm : Xm) : (s.crcFoldOver bs xm).now = s.now := rfl

/-! ### buildHeader -/

@[simp] theorem State.buildHeader_seq (ident : List Byte) : (s.buildHeader ident).seq = s.seq := rfl
@[simp] theorem State.buildHeader_crc (ident : List Byte) : (s.buildHeader ident).crc = s.crc := rfl
@[simp] theorem State.buildHeader_rxcrc (ident : List Byte) : (s.buildHeader ident).rxcrc = s.rxcrc := rfl
@[simp] theorem State.buildHeader_rxbuf (ident : List Byte) : (s.buildHeader ident).rxbuf = s.rxbuf := rfl
@[simp] theorem State.buildHeader_txf (ident : List Byte) : (s.buildHeader ident).txf = headerBody ident := rfl
@[simp] theorem State.buildHeader_pay (ident : List Byte) : (s.buildHeader ident).pay = s.pay := rfl
@[simp] theorem State.buildHeader_li (ident : List Byte) : (s.buildHeader ident).li = s.li := rfl
@[simp] theorem State.buildHeader_tmr (ident : List Byte) : (s.buildHeader ident).tmr = s.tmr := rfl
@[simp] theorem State.buildHeader_status (ident : List Byte) : (s.buildHeader ident).status = s.status := rfl
@[simp] theorem State.buildHeader_skipped (ident : List Byte) : (s.buildHeader ident).skipped = s.skipped := rfl
@[simp] theorem State.buildHeader_rxq (ident : List Byte) : (s.buildHeader ident).rxq = s.rxq := rfl
@[simp] theorem State.buildHeader_txs (ident : List Byte) : (s.buildHeader ident).txs = s.txs := rfl
@[simp] theorem State.buildHeader_log (ident : List Byte) : (s.buildHeader ident).log = s.log := rfl
@[simp] theorem State.buildHeader_src (ident : List Byte) : (s.buildHeader ident).src = s.src := rfl
@[simp] theorem State.buildHeader_arr (ident : List Byte) : (s.buildHeader ident).arr = s.arr := rfl
@[simp] theorem State.buildHeader_ticks (ident : List Byte) : (s.buildHeader ident).ticks = s.ticks := rfl
@[simp] theorem State.buildHeader_cfg (ident : List Byte) : (s.buildHeader ident).cfg = s.cfg := rfl
@[simp] theorem State.buildHeader_inputs (ident : List Byte) : (s.buildHeader ident).inputs = s.inputs := rfl
@[simp] theorem State.buildHeader_recurring (ident : List Byte) : (s.buildHeader ident).recurring = s.recurring := rfl
@[simp] theorem State.buildHeader_phase (ident : List Byte) : (s.buildHeader ident).phase = s.phase := rfl
@[simp] theorem State.buildHeader_port (ident : List Byte) : (s.buildHeader ident).port = s.port := rfl
@[simp] theorem State.buildHeader_res (ident : List Byte) : (s.buildHeader ident).res = s.res := rfl
@[simp] theorem State.buildHeader_now (ident : List Byte) : (s.buildHeader ident).now = s.now := rfl

/-! ### appendCrc -/

@[simp] theorem State.appendCrc_seq : (s.appendCrc).seq = s.seq := rfl
@[simp] theorem State.appendCrc_crc : (s.appendCrc).crc = s.crc := rfl
@[simp] theorem State.appendCrc_rxcrc : (s.appendCrc).rxcrc = s.rxcrc := rfl
@[simp] theorem State.appendCrc_rxbuf : (s.appendCrc).rxbuf = s.rxbuf := rfl
@[simp] theorem State.appendCrc_txf : (s.appendCrc).txf = s.txf ++ crcBytes s.crc := rfl
@[simp] theorem State.appendCrc_pay : (s.appendCrc).pay = s.pay := rfl
@[simp] theorem State.appendCrc_li : (s.appendCrc).li = s.li := rfl
@[simp] theorem State.appendCrc_tmr : (s.appendCrc).tmr = s.tmr := rfl
@[simp] theorem State.appendCrc_status : (s.appendCrc).status = s.status := rfl
@[simp] theorem State.appendCrc_skipped : (s.appendCrc).skipped = s.skipped := rfl
@[simp] theorem State.appendCrc_rxq : (s.appendCrc).rxq = s.rxq := rfl
@[simp] theorem State.appendCrc_txs : (s.appendCrc).txs = s.txs := rfl
@[simp] theorem State.appendCrc_log : (s.appendCrc).log = s.log := rfl
@[simp] theorem State.appendCrc_src : (s.appendCrc).src = s.src := rfl
@[simp] theorem State.appendCrc_arr : (s.appendCrc).arr = s.arr := rfl
@[simp] theorem State.appendCrc_ticks : (s.appendCrc).ticks = s.ticks := rfl
@[simp] theorem State.appendCrc_cfg : (s.appendCrc).cfg = s.cfg := rfl
@[simp] theorem State.appendCrc_inputs : (s.appendCrc).inputs = s.inputs := rfl
@[simp] theorem State.appendCrc_recurring : (s.appendCrc).recurring = s.recurring := rfl
@[simp] theorem State.appendCrc_phase : (s.appendCrc).phase = s.phase := rfl
@[simp] theorem State.appendCrc_port : (s.appendCrc).port = s.port := rfl
@[simp] theorem State.appendCrc_res : (s.appendCrc).res = s.res := rfl
@[simp] theorem State.appendCrc_now : (s.appendCrc).now = s.now := rfl

/-! ### buildData -/

@[simp] theorem State.buildData_seq (l : List Byte) (last : Bool) : (s.buildData l last).seq = s.seq := rfl
@[simp] theorem State.buildData_crc (l : List Byte) (last : Bool) : (s.buildData l last).crc = dataCrc l last := rfl
@[simp] theorem State.buildData_rxcrc (l : List Byte) (last : Bool) : (s.buildData l last).rxcrc = s.rxcrc := rfl
@[simp] theorem State.buildData_rxbuf (l : List Byte) (last : Bool) : (s.buildData l last).rxbuf = s.rxbuf := rfl
@[simp] theorem State.buildData_txf (l : List Byte) (last : Bool) : (s.buildData l last).txf = dataFrame l last := rfl
@[simp] theorem State.buildData_pay (l : List Byte) (last : Bool) : (s.buildData l last).pay = s.pay := rfl
@[simp] theorem State.buildData_li (l : List Byte) (last : Bool) : (s.buildData l last).li = s.li := rfl
@[simp] theorem State.buildData_tmr (l : List Byte) (last : Bool) : (s.buildData l last).tmr = s.tmr := rfl
@[simp] theorem State.buildData_status (l : List Byte) (last : Bool) : (s.buildData l last).status = s.status := rfl
@[simp] theorem State.buildData_skipped (l : List Byte) (last : Bool) : (s.buildData l last).skipped = s.skipped := rfl
@[simp] theorem State.buildData_rxq (l : List Byte) (last : Bool) : (s.buildData l last).rxq = s.rxq := rfl
@[simp] theorem State.buildData_txs (l : List Byte) (last : Bool) : (s.buildData l last).txs = s.txs := rfl
@[simp] theorem State.buildData_log (l : List Byte) (last : Bool) : (s.buildData l last).log = s.log := rfl
@[simp] theorem State.buildData_src (l : List Byte) (last : Bool) : (s.buildData l last).src = s.src := rfl
@[simp] theorem State.buildData_arr (l : List Byte) (last : Bool) : (s.buildData l last).arr = s.arr := rfl
@[simp] theorem State.buildData_ticks (l : List Byte) (last : Bool) : (s.buildData l last).ticks = s.ticks := rfl
@[simp] theorem State.buildData_cfg (l : List Byte) (last : Bool) : (s.buildData l last).cfg = s.cfg := rfl
@[simp] theorem State.buildData_inputs (l : List Byte) (last : Bool) : (s.buildData l last).inputs = s.inputs := rfl
@[simp] theorem State.buildData_recurring (l : List Byte) (last : Bool) : (s.buildData l last).recurring = s.recurring := rfl
@[simp] theorem State.buildData_phase (l : List Byte) (last : Bool) : (s.buildData l last).phase = s.phase := rfl
@[simp] theorem State.buildData_port (l : List Byte) (last : Bool) : (s.buildData l last).port = s.port := rfl
@[simp] theorem State.buildData_res (l : List Byte) (last : Bool) : (s.buildData l last).res = s.res := rfl
@[simp] theorem State.buildData_now (l : List Byte) (last : Bool) : (s.buildData l last).now = s.now := rfl

/-! ### sendToken -/

@[simp] theorem State.sendToken_seq (t : Token) : (s.sendToken t).seq = s.seq := rfl
@[simp] theorem State.sendToken_crc (t : Token) : (s.sendToken t).crc = s.crc := rfl
@[simp] theorem State.sendToken_rxcrc (t : Token) : (s.sendToken t).rxcrc = s.rxcrc := rfl
@[simp] theorem State.sendToken_rxbuf (t : Token) : (s.sendToken t).rxbuf = s.rxbuf := rfl
@[simp] theorem State.sendToken_txf (t : Token) : (s.sendToken t).txf = s.txf := rfl
@[simp] theorem State.sendToken_pay (t : Token) : (s.sendToken t).pay = s.pay := rfl
@[simp] theorem State.sendToken_li (t : Token) : (s.sendToken t).li = s.li := rfl
@[simp] theorem State.sendToken_tmr (t : Token) : (s.sendToken t).tmr = s.tmr := rfl
@[simp] theorem State.sendToken_status (t : Token) : (s.sendToken t).status = s.status := rfl
@[simp] theorem State.sendToken_skipped (t : Token) : (s.sendToken t).skipped = s.skipped := rfl
@[simp] theorem State.sendToken_rxq (t : Token) : (s.sendToken t).rxq = s.rxq := rfl
@[simp] theorem State.sendToken_txs (t : Token) : (s.sendToken t).txs = s.txs ++ (tokenBytes t).map fun b => (s.now, b) := rfl
@[simp] theorem State.sendToken_log (t : Token) : (s.sendToken t).log = s.log := rfl
@[simp] theorem State.sendToken_src (t : Token) : (s.sendToken t).src = s.src := rfl
@[simp] theorem State.sendToken_arr (t : Token) : (s.sendToken t).arr = s.arr := rfl
@[simp] theorem State.sendToken_ticks (t : Token) : (s.sendToken t).ticks = s.ticks := rfl
@[simp] theorem State.sendToken_cfg (t : Token) : (s.sendToken t).cfg = s.cfg := rfl
@[simp] theorem State.sendToken_inputs (t : Token) : (s.sendToken t).inputs = s.inputs := rfl
@[simp] theorem State.sendToken_recurring (t : Token) : (s.sendToken t).recurring = s.recurring := rfl
@[simp] theorem State.sendToken_phase (t : Token) : (s.sendToken t).phase = s.phase := rfl
@[simp] theorem State.sendToken_port (t : Token) : (s.sendToken t).port = s.port := rfl
@[simp] theorem State.sendToken_res (t : Token) : (s.sendToken t).res = s.res := rfl
@[simp] theorem State.sendToken_now (t : Token) : (s.sendToken t).now = s.now := rfl

/-! ### sendFrame -/

@[simp] theorem State.sendFrame_seq : (s.sendFrame).seq = s.seq := rfl
@[simp] theorem State.sendFrame_crc : (s.sendFrame).crc = s.crc := rfl
@[simp] theorem State.sendFrame_rxcrc : (s.sendFrame).rxcrc = s.rxcrc := rfl
@[simp] theorem State.sendFrame_rxbuf : (s.sendFrame).rxbuf = s.rxbuf := rfl
@[simp] theorem State.sendFrame_txf : (s.sendFrame).txf = s.txf := rfl
@[simp] theorem State.sendFrame_pay : (s.sendFrame).pay = s.pay := rfl
@[simp] theorem State.sendFrame_li : (s.sendFrame).li = s.li := rfl
@[simp] theorem State.sendFrame_tmr : (s.sendFrame).tmr = s.tmr := rfl
@[simp] theorem State.sendFrame_status : (s.sendFrame).status = s.status := rfl
@[simp] theorem State.sendFrame_skipped : (s.sendFrame).skipped = s.skipped := rfl
@[simp] theorem State.sendFrame_rxq : (s.sendFrame).rxq = s.rxq := rfl
@[simp] theorem State.sendFrame_txs : (s.sendFrame).txs = s.txs ++ s.txf.map fun b => (s.now, b) := rfl
@[simp] theorem State.sendFrame_log : (s.sendFrame).log = s.log := rfl
@[simp] theorem State.sendFrame_src : (s.sendFrame).src = s.src := rfl
@[simp] theorem State.sendFrame_arr : (s.sendFrame).arr = s.arr := rfl
@[simp] theorem State.sendFrame_ticks : (s.sendFrame).ticks = s.ticks := rfl
@[simp] theorem State.sendFrame_cfg : (s.sendFrame).cfg = s.cfg := rfl
@[simp] theorem State.sendFrame_inputs : (s.sendFrame).inputs = s.inputs := rfl
@[simp] theorem State.sendFrame_recurring : (s.sendFrame).recurring = s.recurring := rfl
@[simp] theorem State.sendFrame_phase : (s.sendFrame).phase = s.phase := rfl
@[simp] theorem State.sendFrame_port : (s.sendFrame).port = s.port := rfl
@[simp] theorem State.sendFrame_res : (s.sendFrame).res = s.res := rfl
@[simp] theorem State.sendFrame_now : (s.sendFrame).now = s.now := rfl

/-! ### sendHeader -/

@[simp] theorem State.sendHeader_seq (ident : List Byte) : (s.sendHeader ident).seq = s.seq := rfl
@[simp] theorem State.sendHeader_crc (ident : List Byte) : (s.sendHeader ident).crc = headerCrc ident := by simp [State.sendHeader, headerCrc]
@[simp] theorem State.sendHeader_rxcrc (ident : List Byte) : (s.sendHeader ident).rxcrc = s.rxcrc := rfl
@[simp] theorem State.sendHeader_rxbuf (ident : List Byte) : (s.sendHeader ident).rxbuf = s.rxbuf := rfl
@[simp] theorem State.sendHeader_txf (ident : List Byte) : (s.sendHeader ident).txf = headerFrame ident := by simp [State.sendHeader, headerFrame, headerCrc]
@[simp] theorem State.sendHeader_pay (ident : List Byte) : (s.sendHeader ident).pay = s.pay := rfl
@[simp] theorem State.sendHeader_li (ident : List Byte) : (s.sendHeader ident).li = s.li := rfl
@[simp] theorem State.sendHeader_tmr (ident : List Byte) : (s.sendHeader ident).tmr = s.tmr := rfl
@[simp] theorem State.sendHeader_status (ident : List Byte) : (s.sendHeader ident).status = s.status := rfl
@[simp] theorem State.sendHeader_skipped (ident : List Byte) : (s.sendHeader ident).skipped = s.skipped := rfl
@[simp] theorem State.sendHeader_rxq (ident : List Byte) : (s.sendHeader ident).rxq = s.rxq := rfl
@[simp] theorem State.sendHeader_txs (ident : List Byte) : (s.sendHeader ident).txs = s.txs ++ (headerFrame ident).map fun b => (s.now, b) := by simp [State.sendHeader, headerFrame, headerCrc]
@[simp] theorem State.sendHeader_log (ident : List Byte) : (s.sendHeader ident).log = s.log := rfl
@[simp] theorem State.sendHeader_src (ident : List Byte) : (s.sendHeader ident).src = s.src := rfl
@[simp] theorem State.sendHeader_arr (ident : List Byte) : (s.sendHeader ident).arr = s.arr := rfl
@[simp] theorem State.sendHeader_ticks (ident : List Byte) : (s.sendHeader ident).ticks = s.ticks := rfl
@[simp] theorem State.sendHeader_cfg (ident : List Byte) : (s.sendHeader ident).cfg = s.cfg := rfl
@[simp] theorem State.sendHeader_inputs (ident : List Byte) : (s.sendHeader ident).inputs = s.inputs := rfl
@[simp] theorem State.sendHeader_recurring (ident : List Byte) : (s.sendHeader ident).recurring = s.recurring := rfl
@[simp] theorem State.sendHeader_phase (ident : List Byte) : (s.sendHeader ident).phase = s.phase := rfl
@[simp] theorem State.sendHeader_port (ident : List Byte) : (s.sendHeader ident).port = s.port := rfl
@[simp] theorem State.sendHeader_res (ident : List Byte) : (s.sendHeader ident).res = s.res := rfl
@[simp] theorem State.sendHeader_now (ident : List Byte) : (s.sendHeader ident).now = s.now := rfl

/-! ### answer -/

@[simp] theorem State.answer_seq (r : UnitResult) : (s.answer r).seq = s.seq := rfl
@[simp] theorem State.answer_crc (r : UnitResult) : (s.answer r).crc = s.crc := rfl
@[simp] theorem State.answer_rxcrc (r : UnitResult) : (s.answer r).rxcrc = s.rxcrc := rfl
@[simp] theorem State.answer_rxbuf (r : UnitResult) : (s.answer r).rxbuf = s.rxbuf := rfl
@[simp] theorem State.answer_txf (r : UnitResult) : (s.answer r).txf = s.txf := rfl
@[simp] theorem State.answer_pay (r : UnitResult) : (s.answer r).pay = s.pay := rfl
@[simp] theorem State.answer_li (r : UnitResult) : (s.answer r).li = s.li := rfl
@[simp] theorem State.answer_tmr (r : UnitResult) : (s.answer r).tmr = s.tmr := rfl
@[simp] theorem State.answer_status (r : UnitResult) : (s.answer r).status = s.status := rfl
@[simp] theorem State.answer_skipped (r : UnitResult) : (s.answer r).skipped = s.skipped := rfl
@[simp] theorem State.answer_rxq (r : UnitResult) : (s.answer r).rxq = s.rxq := rfl
@[simp] theorem State.answer_txs (r : UnitResult) : (s.answer r).txs = s.txs := rfl
@[simp] theorem State.answer_log (r : UnitResult) : (s.answer r).log = s.log := rfl
@[simp] theorem State.answer_src (r : UnitResult) : (s.answer r).src = s.src := rfl
@[simp] theorem State.answer_arr (r : UnitResult) : (s.answer r).arr = s.arr := rfl
@[simp] theorem State.answer_ticks (r : UnitResult) : (s.answer r).ticks = s.ticks := rfl
@[simp] theorem State.answer_cfg (r : UnitResult) : (s.answer r).cfg = s.cfg := rfl
@[simp] theorem State.answer_inputs (r : UnitResult) : (s.answer r).inputs = s.inputs := rfl
@[simp] theorem State.answer_recurring (r : UnitResult) : (s.answer r).recurring = s.recurring := rfl
@[simp] theorem State.answer_phase (r : UnitResult) : (s.answer r).phase = s.phase := rfl
@[simp] theorem State.answer_port (r : UnitResult) : (s.answer r).port = s.port := rfl
@[simp] theorem State.answer_res (r : UnitResult) : (s.answer r).res = r := rfl
@[simp] theorem State.answer_now (r : UnitResult) : (s.answer r).now = s.now := rfl

/-! ### fetched -/

@[simp] theorem State.fetched_seq : (s.fetched).seq = s.seq := rfl
@[simp] theorem State.fetched_crc : (s.fetched).crc = s.crc := rfl
@[simp] theorem State.fetched_rxcrc : (s.fetched).rxcrc = s.rxcrc := rfl
@[simp] theorem State.fetched_rxbuf : (s.fetched).rxbuf = s.rxbuf := rfl
@[simp] theorem State.fetched_txf : (s.fetched).txf = s.txf := rfl
@[simp] theorem State.fetched_pay : (s.fetched).pay = s.pay := rfl
@[simp] theorem State.fetched_li : (s.fetched).li = s.li := rfl
@[simp] theorem State.fetched_tmr : (s.fetched).tmr = s.tmr := rfl
@[simp] theorem State.fetched_status : (s.fetched).status = s.status := rfl
@[simp] theorem State.fetched_skipped : (s.fetched).skipped = s.skipped := rfl
@[simp] theorem State.fetched_rxq : (s.fetched).rxq = s.rxq := rfl
@[simp] theorem State.fetched_txs : (s.fetched).txs = s.txs := rfl
@[simp] theorem State.fetched_log : (s.fetched).log = s.log := rfl
@[simp] theorem State.fetched_src : (s.fetched).src = s.src := rfl
@[simp] theorem State.fetched_arr : (s.fetched).arr = s.arr := rfl
@[simp] theorem State.fetched_ticks : (s.fetched).ticks = s.ticks := rfl
@[simp] theorem State.fetched_cfg : (s.fetched).cfg = s.cfg := rfl
@[simp] theorem State.fetched_inputs : (s.fetched).inputs = s.inputs := rfl
@[simp] theorem State.fetched_recurring : (s.fetched).recurring = s.recurring := rfl
@[simp] theorem State.fetched_phase : (s.fetched).phase = s.phase := rfl
@[simp] theorem State.fetched_port : (s.fetched).port = none := rfl
@[simp] theorem State.fetched_res : (s.fetched).res = s.res := rfl
@[simp] theorem State.fetched_now : (s.fetched).now = s.now := rfl

end Sys2Proof.Machine
end

