-- ==== Sys2Proof/Laws/Ops.lean ====
section
/-! SUPPORT. For each shared operation, once, everything it can do. -/

namespace Sys2Proof.Machine

variable (s : State)

/-! ### One attempt of a wait (R120 to R124) -/

/-- A one-byte wait: expired, nothing there, the awaited byte, another byte (R121, R122). -/
theorem pollCtl_cases (code : CtlCode) :
    (s.tmr = 0 ∧ pollAttempt (readCtl code) s = (.expired, s)) ∨
    (s.tmr ≠ 0 ∧ s.rxq = [] ∧ pollAttempt (readCtl code) s = (.pending, { s with tmr := s.tmr - 1 })) ∨
    (s.tmr ≠ 0 ∧ ∃ more, s.rxq = ctlByte code :: more ∧
      pollAttempt (readCtl code) s = (.matched, { s with tmr := s.tmr - 1, rxq := more })) ∨
    (s.tmr ≠ 0 ∧ ∃ b more, s.rxq = b :: more ∧ b ≠ ctlByte code ∧
      pollAttempt (readCtl code) s = (.pending, { s with tmr := s.tmr - 1, rxq := more })) := by
  by_cases h : s.tmr = 0#32
  · exact .inl ⟨h, by simp [pollAttempt, h]⟩
  · right
    rcases hq : s.rxq with _ | ⟨b, more⟩
    · exact .inl ⟨h, rfl, by simp [pollAttempt, h, readCtl, State.rxPop, hq]⟩
    · right
      by_cases hb : b = ctlByte code
      · exact .inl ⟨h, more, by rw [hb], by simp [pollAttempt, h, readCtl, State.rxPop, hq, isCtl, hb]⟩
      · exact .inr ⟨h, b, more, rfl, hb, by simp [pollAttempt, h, readCtl, State.rxPop, hq, isCtl, hb]⟩

/-- A chunk wait: expired, less than two bytes there, the awaited pair, another chunk (R123). -/
theorem pollAck_cases (n : AckNo) :
    (s.tmr = 0 ∧ pollAttempt (readAck n) s = (.expired, s)) ∨
    (s.tmr ≠ 0 ∧ s.rxq.length < 2 ∧ pollAttempt (readAck n) s = (.pending, { s with tmr := s.tmr - 1 })) ∨
    (s.tmr ≠ 0 ∧ ∃ more, s.rxq = bDLE :: ackDigit n :: more ∧
      pollAttempt (readAck n) s = (.matched, { s with tmr := s.tmr - 1, rxq := more })) ∨
    (s.tmr ≠ 0 ∧ ∃ a b more, s.rxq = a :: b :: more ∧ ¬(a = bDLE ∧ b = ackDigit n) ∧
      pollAttempt (readAck n) s = (.pending, { s with tmr := s.tmr - 1, rxq := more })) := by
  by_cases h : s.tmr = 0#32
  · exact .inl ⟨h, by simp [pollAttempt, h]⟩
  · right
    rcases hq : s.rxq with _ | ⟨a, _ | ⟨b, more⟩⟩
    · exact .inl ⟨h, by simp, by simp [pollAttempt, h, readAck, State.rxPop2, hq]⟩
    · exact .inl ⟨h, by simp, by simp [pollAttempt, h, readAck, State.rxPop2, hq]⟩
    · right
      by_cases hb : a = bDLE ∧ b = ackDigit n
      · obtain ⟨rfl, rfl⟩ := hb
        exact .inl ⟨h, more, rfl, by simp [pollAttempt, h, readAck, State.rxPop2, hq, isAck]⟩
      · refine .inr ⟨h, a, b, more, rfl, hb, ?_⟩
        have : isAck a b n = false := by simpa [isAck] using hb
        simp [pollAttempt, h, readAck, State.rxPop2, hq, this]

/-- The front of RXQ as a response: nothing, a NAK, one other byte, an ACK, a noise chunk (R109). -/
theorem classify_cases :
    (s.rxq = [] ∧ s.classify = (.none, 0)) ∨
    (∃ more, s.rxq = bNAK :: more ∧ s.classify = (.nak, 1)) ∨
    (∃ a, s.rxq = [a] ∧ a ≠ bNAK ∧ s.classify = (.none, 0)) ∨
    (∃ b more, s.rxq = bDLE :: b :: more ∧ (b = 0x30 ∨ b = 0x31) ∧ s.classify = (.ack, 2)) ∨
    (∃ a b more, s.rxq = a :: b :: more ∧ a ≠ bNAK ∧ ¬(a = bDLE ∧ (b = 0x30 ∨ b = 0x31)) ∧
      s.classify = (.noise, 2)) := by
  rcases hq : s.rxq with _ | ⟨a, rest⟩
  · exact .inl ⟨rfl, by simp [State.classify, hq]⟩
  · right
    by_cases ha : a = bNAK
    · exact .inl ⟨rest, by rw [ha], by simp [State.classify, hq, ha]⟩
    · right
      rcases rest with _ | ⟨b, more⟩
      · exact .inl ⟨a, rfl, ha, by simp [State.classify, hq, ha]⟩
      · right
        by_cases hb : a = bDLE ∧ (b = 0x30 ∨ b = 0x31)
        · obtain ⟨rfl, hb⟩ := hb
          refine .inl ⟨b, more, rfl, hb, ?_⟩
          rcases hb with rfl | rfl <;> simp [State.classify, hq, ha, isAck, ackDigit]
        · refine .inr ⟨a, b, more, rfl, ha, hb, ?_⟩
          have h0 : isAck a b .ack0 = false := by simp [isAck, ackDigit]; tauto
          have h1 : isAck a b .ack1 = false := by simp [isAck, ackDigit]; tauto
          simp [State.classify, hq, ha, h0, h1]

/-- The wait for a line's response: expired, nothing to take, a NAK, an ACK, a noise chunk (R124). -/
theorem pollResp_cases :
    (s.tmr = 0 ∧ pollAttempt readResp s = (.expired, s)) ∨
    (s.tmr ≠ 0 ∧ (s.rxq = [] ∨ ∃ a, s.rxq = [a] ∧ a ≠ bNAK) ∧
      pollAttempt readResp s = (.pending, { s with tmr := s.tmr - 1 })) ∨
    (s.tmr ≠ 0 ∧ ∃ more, s.rxq = bNAK :: more ∧
      pollAttempt readResp s = (.naked, { s with tmr := s.tmr - 1, rxq := more })) ∨
    (s.tmr ≠ 0 ∧ ∃ b more, s.rxq = bDLE :: b :: more ∧ (b = 0x30 ∨ b = 0x31) ∧
      pollAttempt readResp s = (.matched, { s with tmr := s.tmr - 1, rxq := more })) ∨
    (s.tmr ≠ 0 ∧ ∃ a b more, s.rxq = a :: b :: more ∧ a ≠ bNAK ∧ ¬(a = bDLE ∧ (b = 0x30 ∨ b = 0x31)) ∧
      pollAttempt readResp s = (.pending, { s with tmr := s.tmr - 1, rxq := more })) := by
  by_cases h : s.tmr = 0#32
  · exact .inl ⟨h, by simp [pollAttempt, h]⟩
  · right
    have e : pollAttempt readResp s =
        ((match s.classify.1 with | .nak => .naked | .ack => .matched | .noise => .pending | .none => .pending),
          { s with tmr := s.tmr - 1, rxq := s.rxq.drop s.classify.2 }) := by
      have : ({ s with tmr := s.tmr - 1 } : State).classify = s.classify := rfl
      rw [pollAttempt, if_neg (by simpa using h)]
      simp only [readResp, this, State.rxDrop]
      rcases s.classify with ⟨_ | _ | _ | _, n⟩ <;> rfl
    rw [e]
    rcases classify_cases s with
      ⟨hq, hc⟩ | ⟨more, hq, hc⟩ | ⟨a, hq, ha, hc⟩ | ⟨b, more, hq, hb, hc⟩ | ⟨a, b, more, hq, ha, hb, hc⟩
    · exact .inl ⟨h, .inl hq, by simp [hc]⟩
    · exact .inr (.inl ⟨h, more, hq, by simp [hc, hq]⟩)
    · exact .inl ⟨h, .inr ⟨a, hq, ha⟩, by simp [hc]⟩
    · exact .inr (.inr (.inl ⟨h, b, more, hq, hb, by simp [hc, hq]⟩))
    · exact .inr (.inr (.inr ⟨h, a, b, more, hq, ha, hb, by simp [hc, hq]⟩))

/-! ### Blocking reads and the pause (R125 to R127) -/

/-- The body read: the buffer is full, idle time over or left, a byte completes the body or does not (R125). -/
theorem readBody_cases :
    (s.rxbuf.length = s.cfg.bodyMax ∧ s.readBodyOnce = (.overflow, s)) ∨
    (s.rxbuf.length ≠ s.cfg.bodyMax ∧ s.rxq = [] ∧ s.tmr = 0 ∧ s.readBodyOnce = (.expired, s)) ∨
    (s.rxbuf.length ≠ s.cfg.bodyMax ∧ s.rxq = [] ∧ s.tmr ≠ 0 ∧
      s.readBodyOnce = (.pending, { s with tmr := s.tmr - 1 })) ∨
    (s.rxbuf.length ≠ s.cfg.bodyMax ∧ ∃ b more, s.rxq = b :: more ∧ endsInSuffix (s.rxbuf ++ [b]) = true ∧
      s.readBodyOnce = (.matched, { s with rxq := more, rxbuf := s.rxbuf ++ [b], tmr := nRxb s.cfg })) ∨
    (s.rxbuf.length ≠ s.cfg.bodyMax ∧ ∃ b more, s.rxq = b :: more ∧ endsInSuffix (s.rxbuf ++ [b]) = false ∧
      s.readBodyOnce = (.more, { s with rxq := more, rxbuf := s.rxbuf ++ [b], tmr := nRxb s.cfg })) := by
  by_cases hf : s.rxbuf.length = s.cfg.bodyMax
  · exact .inl ⟨hf, by simp [State.readBodyOnce, hf]⟩
  · right
    rcases hq : s.rxq with _ | ⟨b, more⟩
    · by_cases h : s.tmr = 0#32
      · exact .inl ⟨hf, rfl, h, by simp [State.readBodyOnce, hf, State.rxPop, hq, State.idle, h]⟩
      · exact .inr (.inl ⟨hf, rfl, h, by simp [State.readBodyOnce, hf, State.rxPop, hq, State.idle, h]⟩)
    · right; right
      cases he : endsInSuffix (s.rxbuf ++ [b])
      · exact .inr ⟨hf, b, more, rfl, he, by simp [State.readBodyOnce, hf, State.rxPop, hq, he]⟩
      · exact .inl ⟨hf, b, more, rfl, he, by simp [State.readBodyOnce, hf, State.rxPop, hq, he]⟩

/-- The CRC read: two bytes there, idle time over or left (R126). -/
theorem readCrc_cases :
    (∃ b0 b1 more, s.rxq = b0 :: b1 :: more ∧
      s.readCrcOnce = (.matched, { s with rxq := more, rxcrc := crcFromWire b0 b1 })) ∨
    (s.rxq.length < 2 ∧ s.tmr = 0 ∧ s.readCrcOnce = (.expired, s)) ∨
    (s.rxq.length < 2 ∧ s.tmr ≠ 0 ∧ s.readCrcOnce = (.pending, { s with tmr := s.tmr - 1 })) := by
  rcases hq : s.rxq with _ | ⟨a, _ | ⟨b, more⟩⟩
  · by_cases h : s.tmr = 0#32
    · exact .inr (.inl ⟨by simp, h, by simp [State.readCrcOnce, State.rxPop2, hq, State.idle, h]⟩)
    · exact .inr (.inr ⟨by simp, h, by simp [State.readCrcOnce, State.rxPop2, hq, State.idle, h]⟩)
  · by_cases h : s.tmr = 0#32
    · exact .inr (.inl ⟨by simp, h, by simp [State.readCrcOnce, State.rxPop2, hq, State.idle, h]⟩)
    · exact .inr (.inr ⟨by simp, h, by simp [State.readCrcOnce, State.rxPop2, hq, State.idle, h]⟩)
  · exact .inl ⟨a, b, more, rfl, by simp [State.readCrcOnce, State.rxPop2, hq]⟩

/-- A pause: over, or one tick less of it (R127). -/
theorem pause_cases :
    (s.tmr = 0 ∧ s.pauseOnce = (.matched, s)) ∨
    (s.tmr ≠ 0 ∧ s.pauseOnce = (.pending, { s with tmr := s.tmr - 1 })) := by
  by_cases h : s.tmr = 0#32
  · exact .inl ⟨h, by simp [State.pauseOnce, h]⟩
  · exact .inr ⟨h, by simp [State.pauseOnce, h]⟩

/-! ### The payload and the environment -/

/-- A cycle loads the payload source exactly when it is within the bounds of R56. -/
theorem payLoad_cases :
    (payloadLegal s.cfg s.src = true ∧ s.payLoad = some s.src) ∨
    (payloadLegal s.cfg s.src = false ∧ s.payLoad = none) := by
  cases h : payloadLegal s.cfg s.src <;> simp [State.payLoad, h]

/-- What the bounds of R56 say. -/
theorem payloadLegal_iff (p : Params) (lines : List Line) :
    payloadLegal p lines = true ↔ lines.length ≤ p.nlinesMax ∧ ∀ l ∈ lines, (stripEol l).length ≤ p.lineMax := by
  simp [payloadLegal]

/-- A listed action comes first. -/
theorem coming_listed {i : Input} {rest : List Input} (h : s.inputs = i :: rest) : s.coming = (i, rest) := by
  simp [State.coming, h]

/-- With the list used up the recurring actions begin again. -/
theorem coming_recurring {i : Input} {rest : List Input} (h : s.inputs = []) (hr : s.recurring = i :: rest) :
    s.coming = (i, rest) := by
  simp [State.coming, h, hr]

/-- With nothing listed and nothing recurring the environment ticks. -/
@[simp] theorem coming_tick (h : s.inputs = []) (hr : s.recurring = []) : s.coming = (.tick, []) := by
  simp [State.coming, h, hr]

/-- What the environment can do next (R30, R37, R49; log 7). -/
theorem environment_cases :
    (∃ rest, s.coming = (.tick, rest) ∧ s.environment = { s with inputs := rest }.beginTick) ∨
    (∃ bytes rest, s.coming = (.arrive bytes, rest) ∧ s.environment = { s with inputs := rest }.arrive bytes) ∨
    (∃ rest, s.coming = (.rst, rest) ∧ s.environment = { s with inputs := rest }.rst) ∨
    (∃ lines rest, s.coming = (.payload lines, rest) ∧
      s.environment = { s with inputs := rest }.setSource lines) := by
  rcases h : s.coming with ⟨_ | _ | _ | _, rest⟩ <;> simp [State.environment, h, State.take]

/-! ### Lines and buffers (R102, R107) -/

/-- RCG.SUFFIX answers whether the buffer ends in DLE ETX (R107). -/
theorem endsInSuffix_iff (buf : List Byte) : endsInSuffix buf = true ↔ ∃ front, buf = front ++ [bDLE, bETX] := by
  constructor
  · intro h
    rcases hr : buf.reverse with _ | ⟨last, _ | ⟨before, front⟩⟩
    · simp [endsInSuffix, hr] at h
    · simp [endsInSuffix, hr] at h
    · simp [endsInSuffix, hr] at h
      refine ⟨front.reverse, ?_⟩
      have := congrArg List.reverse hr
      simpa [h.1, h.2] using this
  · rintro ⟨front, rfl⟩
    simp [endsInSuffix]

/-- FRM.NORM's text: what stands before the CR and LF bytes at the line's end (R102). -/
theorem stripEol_append (t e : List Byte) (ht : noTrailingEol t = true) (he : ∀ b ∈ e, isEol b = true) :
    stripEol (t ++ e) = t := by
  have hd : (e.reverse ++ t.reverse).dropWhile isEol = t.reverse.dropWhile isEol := by
    rw [List.dropWhile_append]
    have : e.reverse.dropWhile isEol = [] := by
      rw [List.dropWhile_eq_nil_iff]; intro b hb; exact he b (by simpa using hb)
    simp [this]
  have ht' : t.reverse.dropWhile isEol = t.reverse := by
    rcases hr : t.reverse with _ | ⟨b, r⟩
    · rfl
    · have hl : t.getLast? = some b := by
        have := congrArg List.head? hr
        simpa using this
      have hb : isEol b = false := by
        simpa [noTrailingEol, hl, isEol, bCR, bLF] using ht
      simp [hb]
  simp [stripEol, hd, ht']

/-- The text of a normalised line has no CR or LF at its end (R102). -/
theorem noTrailingEol_stripEol (l : List Byte) : noTrailingEol (stripEol l) = true := by
  unfold noTrailingEol stripEol
  rw [List.getLast?_reverse]
  rcases h : l.reverse.dropWhile isEol with _ | ⟨b, r⟩
  · simp
  · have := List.head?_dropWhile_not (p := isEol) (l := l.reverse)
    simp [h] at this
    simpa [isEol, bCR, bLF] using this

end Sys2Proof.Machine
end

