-- ==== Sys2Proof/Laws/PerInstr.lean ====
section
/-! SUPPORT. The family of per-instruction statements: an instruction's encoding begins with its own row of the
opcode table, under the row's mask (R73). -/

namespace Sys2Proof.Laws.TableMatch

/-- How many bytes of an instruction its row of the table matches: two for the pairs and the frame prefixes (R62,
R73), one for the codes. -/
def rowBytes : Format → Nat
  | .c1 | .sequencer | .unit => 1
  | .c2 | .hf | .df => 2

/-- The mask of a format's rows (R73). -/
def rowMask : Format → Nat
  | .c1 => 0xFF
  | .sequencer | .unit => 0x1F
  | .c2 | .hf | .df => 0xFFFF

/-- The `match` of an instruction's row in spec/opcode_table.json. -/
def rowMatch : Instr → Nat
  | .soh => 0x01
  | .stx => 0x02
  | .etx => 0x03
  | .eot => 0x04
  | .enq => 0x05
  | .dle => 0x10
  | .nak => 0x15
  | .etb => 0x17
  | .ack0 => 0x1030
  | .ack1 => 0x1031
  | .dleSoh => 0x1001
  | .dleStx => 0x1002
  | .dleEtx => 0x1003
  | .dleEtb => 0x1017
  | .hf _ => 0x1001
  | .dfEtb _ => 0x1002
  | .dfEtx _ => 0x1002
  | .cycleStart => 0x00
  | .h1WaitEnq => 0x01
  | .h1SendAck0 => 0x02
  | .h1Ack0Pause => 0x03
  | .h1ReadBody => 0x04
  | .h1ReadCrc => 0x05
  | .h1VerifyCrc => 0x06
  | .h1SendAck1 => 0x07
  | .h1WaitEot => 0x08
  | .h1Done => 0x09
  | .h2SendEnq => 0x0A
  | .h2WaitAck0 => 0x0B
  | .h2SendId => 0x0C
  | .h2WaitAck1 => 0x0D
  | .h2Pause => 0x0E
  | .h2SendEot => 0x0F
  | .h2Done => 0x10
  | .xfNextLine => 0x11
  | .xfSendEnq => 0x12
  | .xfWaitAck0 => 0x13
  | .xfBuildFrame => 0x14
  | .xfSendFrame => 0x15
  | .xfWaitResp => 0x16
  | .xfDone => 0x17
  | .cycleEnd => 0x18
  | .h1Ack1Pause => 0x19
  | .crcClr => 0x00
  | .crcStep _ => 0x01
  | .crcFold _ _ => 0x02
  | .frmHs _ => 0x03
  | .frmDl _ _ => 0x04
  | .frmNorm _ => 0x05
  | .frmCrc => 0x06
  | .frmDf _ _ => 0x07
  | .rcgByte _ _ => 0x08
  | .rcgSuffix => 0x09
  | .rcgAck _ _ _ => 0x0A
  | .rcgResp => 0x0B
  | .waitEnq => 0x0C
  | .waitEot => 0x0D
  | .waitAck _ => 0x0E
  | .waitResp => 0x0F
  | .rdBody => 0x10
  | .rdCrc => 0x11
  | .pause => 0x12
  | .txCtl _ => 0x13
  | .txFrame => 0x14

/-- The first bytes of an instruction as the table writes them, the first byte highest (R62). -/
def headWord (i : Instr) : Nat :=
  ((encode i).take (rowBytes i.format)).foldl (fun n b => 256 * n + b.toNat) 0

/-- An instruction's encoding has at least its row's bytes, and they match the row. -/
def Statement (i : Instr) : Prop :=
  rowBytes i.format ≤ (encode i).length ∧ headWord i &&& rowMask i.format = rowMatch i

theorem soh : Statement .soh := ⟨by decide, rfl⟩

theorem stx : Statement .stx := ⟨by decide, rfl⟩

theorem etx : Statement .etx := ⟨by decide, rfl⟩

theorem eot : Statement .eot := ⟨by decide, rfl⟩

theorem enq : Statement .enq := ⟨by decide, rfl⟩

theorem dle : Statement .dle := ⟨by decide, rfl⟩

theorem nak : Statement .nak := ⟨by decide, rfl⟩

theorem etb : Statement .etb := ⟨by decide, rfl⟩

theorem ack0 : Statement .ack0 := ⟨by decide, rfl⟩

theorem ack1 : Statement .ack1 := ⟨by decide, rfl⟩

theorem dleSoh : Statement .dleSoh := ⟨by decide, rfl⟩

theorem dleStx : Statement .dleStx := ⟨by decide, rfl⟩

theorem dleEtx : Statement .dleEtx := ⟨by decide, rfl⟩

theorem dleEtb : Statement .dleEtb := ⟨by decide, rfl⟩

theorem hf (ident : List Byte) : Statement (.hf ident) :=
  ⟨by simp [encode, Instr.format, rowBytes, Machine.headerFrame, Machine.headerBody],
    by simp [headWord, encode, Instr.format, rowBytes, Machine.headerFrame, Machine.headerBody]; rfl⟩

theorem dfEtb (line : List Byte) : Statement (.dfEtb line) :=
  ⟨by simp [encode, Instr.format, rowBytes, Machine.dataFrame],
    by simp [headWord, encode, Instr.format, rowBytes, Machine.dataFrame]; rfl⟩

theorem dfEtx (line : List Byte) : Statement (.dfEtx line) :=
  ⟨by simp [encode, Instr.format, rowBytes, Machine.dataFrame],
    by simp [headWord, encode, Instr.format, rowBytes, Machine.dataFrame]; rfl⟩

theorem cycleStart : Statement .cycleStart := ⟨by decide, rfl⟩

theorem h1WaitEnq : Statement .h1WaitEnq := ⟨by decide, rfl⟩

theorem h1SendAck0 : Statement .h1SendAck0 := ⟨by decide, rfl⟩

theorem h1Ack0Pause : Statement .h1Ack0Pause := ⟨by decide, rfl⟩

theorem h1ReadBody : Statement .h1ReadBody := ⟨by decide, rfl⟩

theorem h1ReadCrc : Statement .h1ReadCrc := ⟨by decide, rfl⟩

theorem h1VerifyCrc : Statement .h1VerifyCrc := ⟨by decide, rfl⟩

theorem h1SendAck1 : Statement .h1SendAck1 := ⟨by decide, rfl⟩

theorem h1WaitEot : Statement .h1WaitEot := ⟨by decide, rfl⟩

theorem h1Done : Statement .h1Done := ⟨by decide, rfl⟩

theorem h2SendEnq : Statement .h2SendEnq := ⟨by decide, rfl⟩

theorem h2WaitAck0 : Statement .h2WaitAck0 := ⟨by decide, rfl⟩

theorem h2SendId : Statement .h2SendId := ⟨by decide, rfl⟩

theorem h2WaitAck1 : Statement .h2WaitAck1 := ⟨by decide, rfl⟩

theorem h2Pause : Statement .h2Pause := ⟨by decide, rfl⟩

theorem h2SendEot : Statement .h2SendEot := ⟨by decide, rfl⟩

theorem h2Done : Statement .h2Done := ⟨by decide, rfl⟩

theorem xfNextLine : Statement .xfNextLine := ⟨by decide, rfl⟩

theorem xfSendEnq : Statement .xfSendEnq := ⟨by decide, rfl⟩

theorem xfWaitAck0 : Statement .xfWaitAck0 := ⟨by decide, rfl⟩

theorem xfBuildFrame : Statement .xfBuildFrame := ⟨by decide, rfl⟩

theorem xfSendFrame : Statement .xfSendFrame := ⟨by decide, rfl⟩

theorem xfWaitResp : Statement .xfWaitResp := ⟨by decide, rfl⟩

theorem xfDone : Statement .xfDone := ⟨by decide, rfl⟩

theorem cycleEnd : Statement .cycleEnd := ⟨by decide, rfl⟩

theorem h1Ack1Pause : Statement .h1Ack1Pause := ⟨by decide, rfl⟩

theorem crcClr : Statement .crcClr := ⟨by decide, rfl⟩

theorem crcStep (b : Byte) : Statement (.crcStep b) :=
  ⟨by simp [encode, Instr.format, rowBytes], by simp [headWord, encode, Instr.format, rowBytes]; rfl⟩

theorem crcFold (bytes : List Byte) (xm : Xm) : Statement (.crcFold bytes xm) :=
  ⟨by simp [encode, Instr.format, rowBytes], by simp [headWord, encode, Instr.format, rowBytes]; rfl⟩

theorem frmHs (ident : List Byte) : Statement (.frmHs ident) :=
  ⟨by simp [encode, Instr.format, rowBytes], by simp [headWord, encode, Instr.format, rowBytes]; rfl⟩

theorem frmDl (bytes : List Byte) (isLast : Bool) : Statement (.frmDl bytes isLast) :=
  ⟨by simp [encode, Instr.format, rowBytes], by simp [headWord, encode, Instr.format, rowBytes]; rfl⟩

theorem frmNorm (line : List Byte) : Statement (.frmNorm line) :=
  ⟨by simp [encode, Instr.format, rowBytes], by simp [headWord, encode, Instr.format, rowBytes]; rfl⟩

theorem frmCrc : Statement .frmCrc := ⟨by decide, rfl⟩

theorem frmDf (line : List Byte) (isLast : Bool) : Statement (.frmDf line isLast) :=
  ⟨by simp [encode, Instr.format, rowBytes], by simp [headWord, encode, Instr.format, rowBytes]; rfl⟩

theorem rcgByte (b : Byte) (code : CtlCode) : Statement (.rcgByte b code) :=
  ⟨by simp [encode, Instr.format, rowBytes], by simp [headWord, encode, Instr.format, rowBytes]; rfl⟩

theorem rcgSuffix : Statement .rcgSuffix := ⟨by decide, rfl⟩

theorem rcgAck (c0 : Byte) (c1 : Byte) (expected : AckNo) : Statement (.rcgAck c0 c1 expected) :=
  ⟨by simp [encode, Instr.format, rowBytes], by simp [headWord, encode, Instr.format, rowBytes]; rfl⟩

theorem rcgResp : Statement .rcgResp := ⟨by decide, rfl⟩

theorem waitEnq : Statement .waitEnq := ⟨by decide, rfl⟩

theorem waitEot : Statement .waitEot := ⟨by decide, rfl⟩

theorem waitAck (expected : AckNo) : Statement (.waitAck expected) :=
  ⟨by simp [encode, Instr.format, rowBytes], by simp [headWord, encode, Instr.format, rowBytes]; rfl⟩

theorem waitResp : Statement .waitResp := ⟨by decide, rfl⟩

theorem rdBody : Statement .rdBody := ⟨by decide, rfl⟩

theorem rdCrc : Statement .rdCrc := ⟨by decide, rfl⟩

theorem pause : Statement .pause := ⟨by decide, rfl⟩

theorem txCtl (token : Token) : Statement (.txCtl token) :=
  ⟨by simp [encode, Instr.format, rowBytes], by simp [headWord, encode, Instr.format, rowBytes]; rfl⟩

theorem txFrame : Statement .txFrame := ⟨by decide, rfl⟩

end Sys2Proof.Laws.TableMatch
end

