-- ==== Sys2Proof/Laws/Step.lean ====
section
/-! SUPPORT. The fetch and the step, in the form proofs cite: the codes of the sequencer states, what the legality
test of the parameters says, and the three ways a step can go. -/

namespace Sys2Proof.Machine

/-- The code of a sequencer state names it (R71). -/
@[simp] theorem seqOfCode_code (q : Seq) : seqOfCode q.code = some q := by cases q <;> rfl

/-- The byte that carries a state's code carries it in its low five bits (R73). -/
@[simp] theorem byte_setWidth (q : Seq) : q.byte.setWidth 5 = q.code := by cases q <;> rfl

/-- What the legality test of the parameters says (R9, I2, I7; log 11). -/
theorem legalParams_iff (p : Params) :
    legalParams p = true ↔
      0 < p.tPollMs ∧ p.tPollMs ∣ 50 ∧ 0 < p.tRxbyteMs ∧ p.tPollMs ∣ p.tRxbyteMs ∧
        p.tRxbyteMs / p.tPollMs < 4294967296 ∧ 4 ≤ p.bodyMax ∧ p.nlinesMax ≤ 65535 ∧ p.rxqDepth = none := by
  simp [legalParams, Nat.dvd_iff_mod_eq_zero, and_assoc]

/-- The machine waits exactly when nothing is put before it and the last state blocked (R31). -/
theorem idling_iff (s : State) : s.idling = true ↔ s.port = none ∧ s.phase = .waiting := by
  simp [State.idling]

/-- An illegal configuration is refused, whatever the rest of the state (I2, I7). -/
theorem step_illegal {s : State} (h : legalParams s.cfg = false) : step s = .refused .illegalParameters := by
  simp [step, h]

/-- A waiting machine's step is its environment's (R30). -/
theorem step_idling {s : State} (h : legalParams s.cfg = true) (hi : s.idling = true) :
    step s = .next s.environment := by
  simp [step, h, hi]

/-- Outside the waiting phase a step runs what it fetched (R31). -/
theorem step_fetching {s : State} (h : legalParams s.cfg = true) (hi : s.idling = false) :
    step s = runFetched s.fetch s.fetched := by
  simp [step, h, hi]

/-- With nothing put before the machine, using up the port changes nothing. -/
@[simp] theorem fetched_of_no_port {s : State} (h : s.port = none) : s.fetched = s := by
  cases s; cases h; rfl

end Sys2Proof.Machine
end

