-- ==== Sys2Proof/Laws/Run.lean ====
section
/-! SUPPORT. Runs of several steps, cut into steps and joined. -/

namespace Sys2Proof.Machine

/-- No step. -/
@[simp] theorem run_zero (s : State) : Host.Core.run core 0 s = .next s := rfl

/-- A step that answers next begins a run. -/
theorem run_succ {s t : State} (h : step s = .next t) (n : Nat) :
    Host.Core.run core (n + 1) s = Host.Core.run core n t := by
  have : core.step s = .next t := h
  simp only [Host.Core.run, this]

/-- A run that answers next, followed by another. -/
theorem run_add {m : Nat} : ∀ {s t : State}, Host.Core.run core m s = .next t →
    ∀ n, Host.Core.run core (m + n) s = Host.Core.run core n t := by
  induction m with
  | zero => intro s t h n; cases h; rw [Nat.zero_add]
  | succ m ih =>
    intro s t h n
    rcases hs : step s with u | f | r
    · rw [run_succ hs] at h
      rw [Nat.add_right_comm, run_succ hs, ih h]
    all_goals
      have hc : core.step s = _ := hs
      simp [Host.Core.run, hc] at h

end Sys2Proof.Machine
end

