-- ==== Sys2Proof/Laws/Transition.lean ====
section
/-! SUPPORT. Everything one `Exec` of a sequencer state can do, said once: `Transition s t` has one constructor per
branch of a state's rule, and `transition_of_exec` says that an `Exec` that answers next took one of them. -/

namespace Sys2Proof.Machine

/-- The branches of the rules R141 to R203, each with the state it leaves. -/
inductive Transition (s : State) : State → Prop where
  | cycleStart : s.seq = .cycleStart → payloadLegal s.cfg s.src = true →
      Transition s { s with
        rxq := [], pay := s.src, crc := 0, rxcrc := 0, rxbuf := [], txf := [], li := 0, status := 0, skipped := 0
        log := s.log ++ [⟨s.now, .cycleStart, 0⟩], tmr := nEnq s.cfg, seq := .h1WaitEnq, phase := .running }
  | cycleEnd : s.seq = .cycleEnd →
      Transition s { s with
        log := s.log ++ [⟨s.now, .cycleEnd, s.status⟩], seq := .cycleStart, phase := .running }
  /-- A timed state waits on, having taken `n` bytes: a polled attempt, an idle tick or a tick of a pause. -/
  | wait (n : Nat) : timedState s.seq = true → s.tmr ≠ 0 → n ≤ 2 →
      (s.rxq = [] → n = 0) → (s.seq ∈ [Seq.h1Ack0Pause, .h1ReadBody, .h1ReadCrc, .h2Pause, .h1Ack1Pause] → n = 0) →
      Transition s { s with tmr := s.tmr - 1, rxq := s.rxq.drop n, phase := .waiting }
  /-- A polled wait expires (R226). -/
  | expire (x : Stage) : s.tmr = 0 →
      (s.seq = .h1WaitEnq ∧ x = .h1 ∨ s.seq = .h1WaitEot ∧ x = .h1 ∨ s.seq = .h2WaitAck0 ∧ x = .h2 ∨
        s.seq = .h2WaitAck1 ∧ x = .h2 ∨ s.seq = .xfWaitAck0 ∧ x = .xf) →
      Transition s (s.raise x .handshakeTimeout)
  /-- The header breaks off or overruns its buffer (R144, R145). -/
  | malformed : s.seq = .h1ReadBody ∧ s.rxbuf.length = s.cfg.bodyMax ∨
        (s.seq = .h1ReadBody ∨ s.seq = .h1ReadCrc) ∧ s.tmr = 0 →
      Transition s (s.raise .h1 .malformedFrame)
  | checksum (c : Word) : s.seq = .h1VerifyCrc → c ≠ s.rxcrc →
      Transition s ({ s with crc := c }.raise .h1 .checksumMismatch)
  | gotEnq (more : List Byte) : s.seq = .h1WaitEnq → s.tmr ≠ 0 → s.rxq = bENQ :: more →
      Transition s { s with
        tmr := s.tmr - 1, rxq := more, log := s.log ++ [⟨s.now, .h1EnqRx, 0⟩], seq := .h1SendAck0, phase := .running }
  | sendAck0 : s.seq = .h1SendAck0 →
      Transition s { s with
        txs := s.txs ++ [bDLE, 0x30].map fun b => (s.now, b), log := s.log ++ [⟨s.now, .h1Ack0Tx, 0⟩]
        tmr := nPause s.cfg, seq := .h1Ack0Pause, phase := .running }
  | pause0Over : s.seq = .h1Ack0Pause → s.tmr = 0 →
      Transition s { s with rxbuf := [], tmr := nRxb s.cfg, seq := .h1ReadBody, phase := .running }
  | bodyByte (b : Byte) (more : List Byte) : s.seq = .h1ReadBody → s.rxbuf.length ≠ s.cfg.bodyMax →
      s.rxq = b :: more → endsInSuffix (s.rxbuf ++ [b]) = false →
      Transition s { s with rxq := more, rxbuf := s.rxbuf ++ [b], tmr := nRxb s.cfg, phase := .running }
  | bodyDone (b : Byte) (more : List Byte) : s.seq = .h1ReadBody → s.rxbuf.length ≠ s.cfg.bodyMax →
      s.rxq = b :: more → endsInSuffix (s.rxbuf ++ [b]) = true →
      Transition s { s with
        rxq := more, rxbuf := s.rxbuf ++ [b], log := s.log ++ [⟨s.now, .h1BodyRx, bodyLenArg (s.rxbuf ++ [b]).length⟩]
        tmr := nRxb s.cfg, seq := .h1ReadCrc, phase := .running }
  | crcRead (b0 b1 : Byte) (more : List Byte) : s.seq = .h1ReadCrc → s.rxq = b0 :: b1 :: more →
      Transition s { s with
        rxq := more, rxcrc := crcFromWire b0 b1, log := s.log ++ [⟨s.now, .h1CrcRx, crcFromWire b0 b1⟩]
        seq := .h1VerifyCrc, phase := .running }
  | crcOk (c : Word) : s.seq = .h1VerifyCrc → c = s.rxcrc →
      Transition s { s with
        crc := c, log := s.log ++ [⟨s.now, .h1CrcOk, c⟩], seq := .h1SendAck1, phase := .running }
  | sendAck1 : s.seq = .h1SendAck1 → s.cfg.pauseAfterAck1 = false →
      Transition s { s with
        txs := s.txs ++ [bDLE, 0x31].map fun b => (s.now, b), log := s.log ++ [⟨s.now, .h1Ack1Tx, 0⟩]
        tmr := nEot s.cfg, seq := .h1WaitEot, phase := .running }
  | sendAck1Pause : s.seq = .h1SendAck1 → s.cfg.pauseAfterAck1 = true →
      Transition s { s with
        txs := s.txs ++ [bDLE, 0x31].map fun b => (s.now, b), log := s.log ++ [⟨s.now, .h1Ack1Tx, 0⟩]
        tmr := nPause s.cfg, seq := .h1Ack1Pause, phase := .running }
  | pause1Over : s.seq = .h1Ack1Pause → s.tmr = 0 →
      Transition s { s with tmr := nEot s.cfg, seq := .h1WaitEot, phase := .running }
  | gotEot (more : List Byte) : s.seq = .h1WaitEot → s.tmr ≠ 0 → s.rxq = bEOT :: more →
      Transition s { s with
        tmr := s.tmr - 1, rxq := more, status := setStageOut .h1 s.status .success
        log := s.log ++ [⟨s.now, .h1EotRx, 0⟩, ⟨s.now, .h1Ok, 0⟩], seq := .h1Done, phase := .running }
  | h1DoneOk : s.seq = .h1Done → h1Out s.status = 1 → Transition s { s with seq := .h2SendEnq, phase := .running }
  | h1DoneFail : s.seq = .h1Done → h1Out s.status ≠ 1 → Transition s { s with seq := .cycleEnd, phase := .running }
  | h2SendEnq : s.seq = .h2SendEnq →
      Transition s { s with
        txs := s.txs ++ [bENQ].map fun b => (s.now, b), log := s.log ++ [⟨s.now, .h2EnqTx, 0⟩]
        tmr := nAck s.cfg, seq := .h2WaitAck0, phase := .running }
  | h2GotAck0 (more : List Byte) : s.seq = .h2WaitAck0 → s.tmr ≠ 0 → s.rxq = bDLE :: 0x30 :: more →
      Transition s { s with
        tmr := s.tmr - 1, rxq := more, log := s.log ++ [⟨s.now, .h2Ack0Rx, 0⟩], seq := .h2SendId, phase := .running }
  | h2SendId : s.seq = .h2SendId →
      Transition s { s with
        txf := headerFrame idBytes, crc := headerCrc idBytes
        txs := s.txs ++ (headerFrame idBytes).map fun b => (s.now, b)
        log := s.log ++ [⟨s.now, .h2IdTx, headerCrc idBytes⟩], tmr := nAck s.cfg, seq := .h2WaitAck1, phase := .running }
  | h2GotAck1 (more : List Byte) : s.seq = .h2WaitAck1 → s.tmr ≠ 0 → s.rxq = bDLE :: 0x31 :: more →
      Transition s { s with
        tmr := nPause s.cfg, rxq := more, log := s.log ++ [⟨s.now, .h2Ack1Rx, 0⟩], seq := .h2Pause, phase := .running }
  | h2PauseOver : s.seq = .h2Pause → s.tmr = 0 → Transition s { s with seq := .h2SendEot, phase := .running }
  | h2SendEot : s.seq = .h2SendEot →
      Transition s { s with
        txs := s.txs ++ [bEOT].map fun b => (s.now, b), status := setStageOut .h2 s.status .success
        log := s.log ++ [⟨s.now, .h2EotTx, 0⟩, ⟨s.now, .h2Ok, 0⟩], seq := .h2Done, phase := .running }
  | h2DoneOk : s.seq = .h2Done → h2Out s.status = 1 → Transition s { s with seq := .xfNextLine, phase := .running }
  | h2DoneFail : s.seq = .h2Done → h2Out s.status ≠ 1 → Transition s { s with seq := .cycleEnd, phase := .running }
  | linesDone : s.seq = .xfNextLine → s.pay.length ≤ s.li.toNat →
      Transition s { s with
        status := setStageOut .xf s.status .success, log := s.log ++ [⟨s.now, .xfDone, s.skipped⟩]
        seq := .xfDone, phase := .running }
  | firstLine : s.seq = .xfNextLine → s.li.toNat < s.pay.length → s.li = 0 →
      Transition s { s with seq := .xfSendEnq, phase := .running }
  | laterLine : s.seq = .xfNextLine → s.li.toNat < s.pay.length → s.li ≠ 0 →
      Transition s { s with seq := .xfBuildFrame, phase := .running }
  | xfSendEnq : s.seq = .xfSendEnq →
      Transition s { s with
        txs := s.txs ++ [bENQ].map fun b => (s.now, b), log := s.log ++ [⟨s.now, .xfEnqTx, 0⟩]
        tmr := nAck s.cfg, seq := .xfWaitAck0, phase := .running }
  | xfGotAck0 (more : List Byte) : s.seq = .xfWaitAck0 → s.tmr ≠ 0 → s.rxq = bDLE :: 0x30 :: more →
      Transition s { s with
        tmr := s.tmr - 1, rxq := more, log := s.log ++ [⟨s.now, .xfAck0Rx, 0⟩]
        seq := .xfBuildFrame, phase := .running }
  | buildFrame (line : Line) : s.seq = .xfBuildFrame → s.pay[s.li.toNat]? = some line →
      Transition s { s with
        crc := dataCrc line s.isLastLine, txf := dataFrame line s.isLastLine, seq := .xfSendFrame, phase := .running }
  | sendFrame : s.seq = .xfSendFrame →
      Transition s { s with
        txs := s.txs ++ s.txf.map fun b => (s.now, b), log := s.log ++ [⟨s.now, .xfLineTx, s.li⟩]
        tmr := nLine s.cfg, seq := .xfWaitResp, phase := .running }
  | lineAck (b : Byte) (more : List Byte) : s.seq = .xfWaitResp → s.tmr ≠ 0 → s.rxq = bDLE :: b :: more →
      b = 0x30 ∨ b = 0x31 →
      Transition s { s with
        tmr := s.tmr - 1, rxq := more, log := s.log ++ [⟨s.now, .xfLineAck, s.li⟩], li := s.li + 1
        seq := .xfNextLine, phase := .running }
  | lineNak (more : List Byte) : s.seq = .xfWaitResp → s.tmr ≠ 0 → s.rxq = bNAK :: more →
      Transition s { s with
        rxq := more, log := s.log ++ [⟨s.now, .xfLineNak, s.li⟩], txs := s.txs ++ s.txf.map fun b => (s.now, b)
        tmr := if s.cfg.nakRestartsWindow then nLine s.cfg else s.tmr - 1, phase := .waiting }
  | lineTimeout : s.seq = .xfWaitResp → s.tmr = 0 →
      Transition s { s with
        status := setErr s.status lineTimeoutCode, skipped := s.skipped + 1
        log := s.log ++ [⟨s.now, .xfLineTimeout, s.li⟩], li := s.li + 1, seq := .xfNextLine, phase := .running }
  | xfDone : s.seq = .xfDone → Transition s { s with seq := .cycleEnd, phase := .running }

/-- The state answers next and took a branch. -/
def Answers (s : State) : Prop := ∃ t, exec s.seq.instr s = .next t ∧ Transition s t

variable {s : State}

/-- Waiting on without taking a byte is a branch of every timed state. -/
theorem waits_on (hq : timedState s.seq = true) (h0 : s.tmr ≠ 0) :
    ∃ t, Host.Outcome.next (ρ := Refusal) (φ := Fault) { s with tmr := s.tmr - 1, phase := .waiting } = .next t ∧
      Transition s t :=
  ⟨_, by simp only [List.drop_zero], .wait 0 hq h0 (by simp) (by simp) (by simp)⟩

/-- Waiting on after taking `n` bytes is a branch of the polled states. -/
theorem waits_taking (n : Nat) {more : List Byte} (hq : timedState s.seq = true) (h0 : s.tmr ≠ 0)
    (hm : more = s.rxq.drop n) (hn : n ≤ 2) (he : s.rxq = [] → n = 0)
    (hp : s.seq ∈ [Seq.h1Ack0Pause, .h1ReadBody, .h1ReadCrc, .h2Pause, .h1Ack1Pause] → n = 0) :
    ∃ t, Host.Outcome.next (ρ := Refusal) (φ := Fault)
        { s with tmr := s.tmr - 1, rxq := more, phase := .waiting } = .next t ∧ Transition s t :=
  ⟨_, by rw [hm], .wait n hq h0 hn he hp⟩

/-- `H1_WAIT_ENQ` takes a branch. -/
theorem answers_h1WaitEnq (q : s.seq = .h1WaitEnq) : Answers s := by
  unfold Answers
  simp only [q, Seq.instr, exec]
  simp only [execH1WaitEnq, State.waitEnqOnce]
  rcases pollCtl_cases s .enq with ⟨h0, h⟩ | ⟨h0, hr, h⟩ | ⟨h0, more, hr, h⟩ | ⟨h0, b, more, hr, -, h⟩ <;> simp only [h]
  · exact ⟨_, rfl, .expire .h1 h0 (by simp [q])⟩
  · exact waits_on (by simp [q, timedState]) h0
  · exact ⟨_, rfl, .gotEnq more q h0 hr⟩
  · exact waits_taking 1 (by simp [q, timedState]) h0 (by simp [hr]) (by simp) (by simp [hr]) (by simp [q])

/-- `H1_SEND_ACK0` takes a branch. -/
theorem answers_h1SendAck0 (q : s.seq = .h1SendAck0) : Answers s := by
  unfold Answers
  simp only [q, Seq.instr, exec]
  exact ⟨_, rfl, .sendAck0 q⟩

/-- `H1_ACK0_PAUSE` takes a branch. -/
theorem answers_h1Ack0Pause (q : s.seq = .h1Ack0Pause) : Answers s := by
  unfold Answers
  simp only [q, Seq.instr, exec]
  simp only [execH1Ack0Pause]
  rcases pause_cases s with ⟨h0, h⟩ | ⟨h0, h⟩ <;> simp only [h]
  · exact ⟨_, rfl, .pause0Over q h0⟩
  · exact waits_on (by simp [q, timedState]) h0

/-- `H1_READ_BODY` takes a branch. -/
theorem answers_h1ReadBody (q : s.seq = .h1ReadBody) : Answers s := by
  unfold Answers
  simp only [q, Seq.instr, exec]
  simp only [execH1ReadBody]
  rcases readBody_cases s with ⟨hf, h⟩ | ⟨-, -, h0, h⟩ | ⟨-, -, h0, h⟩ | ⟨hf, b, more, hr, he, h⟩ | ⟨hf, b, more, hr, he, h⟩ <;>
    simp only [h]
  · exact ⟨_, rfl, .malformed (.inl ⟨q, hf⟩)⟩
  · exact ⟨_, rfl, .malformed (.inr ⟨.inl q, h0⟩)⟩
  · exact waits_on (by simp [q, timedState]) h0
  · exact ⟨_, rfl, .bodyDone b more q hf hr he⟩
  · exact ⟨_, rfl, .bodyByte b more q hf hr he⟩

/-- `H1_READ_CRC` takes a branch. -/
theorem answers_h1ReadCrc (q : s.seq = .h1ReadCrc) : Answers s := by
  unfold Answers
  simp only [q, Seq.instr, exec]
  simp only [execH1ReadCrc]
  rcases readCrc_cases s with ⟨b0, b1, more, hr, h⟩ | ⟨-, h0, h⟩ | ⟨-, h0, h⟩ <;> simp only [h]
  · exact ⟨_, rfl, .crcRead b0 b1 more q hr⟩
  · exact ⟨_, rfl, .malformed (.inr ⟨.inr q, h0⟩)⟩
  · exact waits_on (by simp [q, timedState]) h0

/-- `H1_VERIFY_CRC` takes a branch. -/
theorem answers_h1VerifyCrc (q : s.seq = .h1VerifyCrc) : Answers s := by
  unfold Answers
  simp only [q, Seq.instr, exec]
  simp only [execH1VerifyCrc]
  by_cases h : (s.crcFoldOver s.rxbuf .dleSoh).crc = (s.crcFoldOver s.rxbuf .dleSoh).rxcrc
  · exact ⟨_, by rw [if_pos (by simpa only [beq_iff_eq] using h)]; rfl, .crcOk _ q h⟩
  · exact ⟨_, by rw [if_neg (by simpa only [beq_iff_eq] using h)]; rfl, .checksum _ q h⟩

/-- `H1_SEND_ACK1` takes a branch. -/
theorem answers_h1SendAck1 (q : s.seq = .h1SendAck1) : Answers s := by
  unfold Answers
  simp only [q, Seq.instr, exec]
  simp only [execH1SendAck1]
  split
  next h => exact ⟨_, rfl, .sendAck1Pause q (by simpa using h)⟩
  next h => exact ⟨_, rfl, .sendAck1 q (by simpa using h)⟩

/-- `H1_WAIT_EOT` takes a branch. -/
theorem answers_h1WaitEot (q : s.seq = .h1WaitEot) : Answers s := by
  unfold Answers
  simp only [q, Seq.instr, exec]
  simp only [execH1WaitEot, State.waitEotOnce]
  rcases pollCtl_cases s .eot with ⟨h0, h⟩ | ⟨h0, hr, h⟩ | ⟨h0, more, hr, h⟩ | ⟨h0, b, more, hr, -, h⟩ <;> simp only [h]
  · exact ⟨_, rfl, .expire .h1 h0 (by simp [q])⟩
  · exact waits_on (by simp [q, timedState]) h0
  · exact ⟨_, by simp [State.logEvent, State.goTo, State.now], .gotEot more q h0 hr⟩
  · exact waits_taking 1 (by simp [q, timedState]) h0 (by simp [hr]) (by simp) (by simp [hr]) (by simp [q])

/-- `H1_DONE` takes a branch. -/
theorem answers_h1Done (q : s.seq = .h1Done) : Answers s := by
  unfold Answers
  simp only [q, Seq.instr, exec]
  simp only [execH1Done]
  split
  next h => exact ⟨_, rfl, .h1DoneOk q (by simpa [outcomeCode] using h)⟩
  next h => exact ⟨_, rfl, .h1DoneFail q (by simpa [outcomeCode] using h)⟩

/-- `H2_SEND_ENQ` takes a branch. -/
theorem answers_h2SendEnq (q : s.seq = .h2SendEnq) : Answers s := by
  unfold Answers
  simp only [q, Seq.instr, exec]
  exact ⟨_, rfl, .h2SendEnq q⟩

/-- `H2_WAIT_ACK0` takes a branch. -/
theorem answers_h2WaitAck0 (q : s.seq = .h2WaitAck0) : Answers s := by
  unfold Answers
  simp only [q, Seq.instr, exec]
  simp only [execH2WaitAck0, State.waitAckOnce]
  rcases pollAck_cases s .ack0 with ⟨h0, h⟩ | ⟨h0, hr, h⟩ | ⟨h0, more, hr, h⟩ | ⟨h0, a, b, more, hr, -, h⟩ <;> simp only [h]
  · exact ⟨_, rfl, .expire .h2 h0 (by simp [q])⟩
  · exact waits_on (by simp [q, timedState]) h0
  · exact ⟨_, rfl, .h2GotAck0 more q h0 hr⟩
  · exact waits_taking 2 (by simp [q, timedState]) h0 (by simp [hr]) (by simp) (by simp [hr]) (by simp [q])

/-- `H2_SEND_ID` takes a branch. -/
theorem answers_h2SendId (q : s.seq = .h2SendId) : Answers s := by
  unfold Answers
  simp only [q, Seq.instr, exec]
  exact ⟨_, rfl, .h2SendId q⟩

/-- `H2_WAIT_ACK1` takes a branch. -/
theorem answers_h2WaitAck1 (q : s.seq = .h2WaitAck1) : Answers s := by
  unfold Answers
  simp only [q, Seq.instr, exec]
  simp only [execH2WaitAck1, State.waitAckOnce]
  rcases pollAck_cases s .ack1 with ⟨h0, h⟩ | ⟨h0, hr, h⟩ | ⟨h0, more, hr, h⟩ | ⟨h0, a, b, more, hr, -, h⟩ <;> simp only [h]
  · exact ⟨_, rfl, .expire .h2 h0 (by simp [q])⟩
  · exact waits_on (by simp [q, timedState]) h0
  · exact ⟨_, rfl, .h2GotAck1 more q h0 hr⟩
  · exact waits_taking 2 (by simp [q, timedState]) h0 (by simp [hr]) (by simp) (by simp [hr]) (by simp [q])

/-- `H2_PAUSE` takes a branch. -/
theorem answers_h2Pause (q : s.seq = .h2Pause) : Answers s := by
  unfold Answers
  simp only [q, Seq.instr, exec]
  simp only [execH2Pause]
  rcases pause_cases s with ⟨h0, h⟩ | ⟨h0, h⟩ <;> simp only [h]
  · exact ⟨_, rfl, .h2PauseOver q h0⟩
  · exact waits_on (by simp [q, timedState]) h0

/-- `H2_SEND_EOT` takes a branch. -/
theorem answers_h2SendEot (q : s.seq = .h2SendEot) : Answers s := by
  unfold Answers
  simp only [q, Seq.instr, exec]
  exact ⟨_, by simp only [execH2SendEot, State.logEvent, List.append_assoc, List.cons_append, List.nil_append]; rfl, .h2SendEot q⟩

/-- `H2_DONE` takes a branch. -/
theorem answers_h2Done (q : s.seq = .h2Done) : Answers s := by
  unfold Answers
  simp only [q, Seq.instr, exec]
  simp only [execH2Done]
  split
  next h => exact ⟨_, rfl, .h2DoneOk q (by simpa [outcomeCode] using h)⟩
  next h => exact ⟨_, rfl, .h2DoneFail q (by simpa [outcomeCode] using h)⟩

/-- `XF_NEXT_LINE` takes a branch. -/
theorem answers_xfNextLine (q : s.seq = .xfNextLine) : Answers s := by
  unfold Answers
  simp only [q, Seq.instr, exec]
  simp only [execXfNextLine]
  split
  next h => exact ⟨_, rfl, .linesDone q h⟩
  next h =>
    split
    next h0 => exact ⟨_, rfl, .firstLine q (by omega) (by simpa using h0)⟩
    next h0 => exact ⟨_, rfl, .laterLine q (by omega) (by simpa using h0)⟩

/-- `XF_SEND_ENQ` takes a branch. -/
theorem answers_xfSendEnq (q : s.seq = .xfSendEnq) : Answers s := by
  unfold Answers
  simp only [q, Seq.instr, exec]
  exact ⟨_, rfl, .xfSendEnq q⟩

/-- `XF_WAIT_ACK0` takes a branch. -/
theorem answers_xfWaitAck0 (q : s.seq = .xfWaitAck0) : Answers s := by
  unfold Answers
  simp only [q, Seq.instr, exec]
  simp only [execXfWaitAck0, State.waitAckOnce]
  rcases pollAck_cases s .ack0 with ⟨h0, h⟩ | ⟨h0, hr, h⟩ | ⟨h0, more, hr, h⟩ | ⟨h0, a, b, more, hr, -, h⟩ <;> simp only [h]
  · exact ⟨_, rfl, .expire .xf h0 (by simp [q])⟩
  · exact waits_on (by simp [q, timedState]) h0
  · exact ⟨_, rfl, .xfGotAck0 more q h0 hr⟩
  · exact waits_taking 2 (by simp [q, timedState]) h0 (by simp [hr]) (by simp) (by simp [hr]) (by simp [q])

/-- `XF_SEND_FRAME` takes a branch. -/
theorem answers_xfSendFrame (q : s.seq = .xfSendFrame) : Answers s := by
  unfold Answers
  simp only [q, Seq.instr, exec]
  exact ⟨_, rfl, .sendFrame q⟩

/-- `XF_WAIT_RESP` takes a branch. -/
theorem answers_xfWaitResp (q : s.seq = .xfWaitResp) : Answers s := by
  unfold Answers
  simp only [q, Seq.instr, exec]
  simp only [execXfWaitResp, State.waitRespOnce]
  rcases pollResp_cases s with ⟨h0, h⟩ | ⟨h0, -, h⟩ | ⟨h0, more, hr, h⟩ | ⟨h0, b, more, hr, hb, h⟩ |
    ⟨h0, a, b, more, hr, -, -, h⟩ <;> simp only [h]
  · exact ⟨_, rfl, .lineTimeout q h0⟩
  · exact waits_on (by simp [q, timedState]) h0
  · refine ⟨_, ?_, .lineNak more q h0 hr⟩
    cases hn : s.cfg.nakRestartsWindow <;> simp [State.retransmit, hn, State.load, State.block, State.now]
  · exact ⟨_, rfl, .lineAck b more q h0 hr hb⟩
  · exact waits_taking 2 (by simp [q, timedState]) h0 (by simp [hr]) (by simp) (by simp [hr]) (by simp [q])

/-- `XF_DONE` takes a branch. -/
theorem answers_xfDone (q : s.seq = .xfDone) : Answers s := by
  unfold Answers
  simp only [q, Seq.instr, exec]
  exact ⟨_, rfl, .xfDone q⟩

/-- `CYCLE_END` takes a branch. -/
theorem answers_cycleEnd (q : s.seq = .cycleEnd) : Answers s := by
  unfold Answers
  simp only [q, Seq.instr, exec]
  exact ⟨_, rfl, .cycleEnd q⟩

/-- `H1_ACK1_PAUSE` takes a branch. -/
theorem answers_h1Ack1Pause (q : s.seq = .h1Ack1Pause) : Answers s := by
  unfold Answers
  simp only [q, Seq.instr, exec]
  simp only [execH1Ack1Pause]
  rcases pause_cases s with ⟨h0, h⟩ | ⟨h0, h⟩ <;> simp only [h]
  · exact ⟨_, rfl, .pause1Over q h0⟩
  · exact waits_on (by simp [q, timedState]) h0

/-- `Exec` of a sequencer state takes a branch, but for the two stops: a payload out of bounds, and a line index
outside `pay` (log 15, log 17). -/
theorem exec_seq_cases (s : State) :
    Answers s ∨
    (s.seq = .cycleStart ∧ payloadLegal s.cfg s.src = false ∧ exec s.seq.instr s = .refused .payloadOutOfBounds) ∨
    (s.seq = .xfBuildFrame ∧ s.pay.length ≤ s.li.toNat ∧ exec s.seq.instr s = .fault .lineIndexOutOfRange) := by
  rcases hq : s.seq
  case cycleStart =>
    rcases payLoad_cases s with ⟨hp, h⟩ | ⟨hp, h⟩
    · exact .inl ⟨_, by simp only [hq, Seq.instr, exec, execCycleStart, h]; rfl, .cycleStart hq hp⟩
    · exact .inr (.inl ⟨rfl, hp, by simp only [Seq.instr, exec, execCycleStart, h]⟩)
  case xfBuildFrame =>
    rcases h : s.pay[s.li.toNat]? with _ | line
    · exact .inr (.inr ⟨rfl, by simpa using h, by simp only [Seq.instr, exec, execXfBuildFrame, State.payLine, h]⟩)
    · exact .inl ⟨_, by simp only [hq, Seq.instr, exec, execXfBuildFrame, State.payLine, h]; rfl, .buildFrame line hq h⟩
  case h1WaitEnq => exact .inl (answers_h1WaitEnq hq)
  case h1SendAck0 => exact .inl (answers_h1SendAck0 hq)
  case h1Ack0Pause => exact .inl (answers_h1Ack0Pause hq)
  case h1ReadBody => exact .inl (answers_h1ReadBody hq)
  case h1ReadCrc => exact .inl (answers_h1ReadCrc hq)
  case h1VerifyCrc => exact .inl (answers_h1VerifyCrc hq)
  case h1SendAck1 => exact .inl (answers_h1SendAck1 hq)
  case h1WaitEot => exact .inl (answers_h1WaitEot hq)
  case h1Done => exact .inl (answers_h1Done hq)
  case h2SendEnq => exact .inl (answers_h2SendEnq hq)
  case h2WaitAck0 => exact .inl (answers_h2WaitAck0 hq)
  case h2SendId => exact .inl (answers_h2SendId hq)
  case h2WaitAck1 => exact .inl (answers_h2WaitAck1 hq)
  case h2Pause => exact .inl (answers_h2Pause hq)
  case h2SendEot => exact .inl (answers_h2SendEot hq)
  case h2Done => exact .inl (answers_h2Done hq)
  case xfNextLine => exact .inl (answers_xfNextLine hq)
  case xfSendEnq => exact .inl (answers_xfSendEnq hq)
  case xfWaitAck0 => exact .inl (answers_xfWaitAck0 hq)
  case xfSendFrame => exact .inl (answers_xfSendFrame hq)
  case xfWaitResp => exact .inl (answers_xfWaitResp hq)
  case xfDone => exact .inl (answers_xfDone hq)
  case cycleEnd => exact .inl (answers_cycleEnd hq)
  case h1Ack1Pause => exact .inl (answers_h1Ack1Pause hq)

/-- An `Exec` of a sequencer state that answers next took a branch. -/
theorem transition_of_exec {s t : State} (h : exec s.seq.instr s = .next t) : Transition s t := by
  rcases exec_seq_cases s with ⟨t', ht, tr⟩ | ⟨-, -, hr⟩ | ⟨-, -, hf⟩
  · rw [h] at ht; cases ht; exact tr
  · rw [h] at hr; cases hr
  · rw [h] at hf; cases hf

end Sys2Proof.Machine
end

