-- ==== Sys2Proof/Tests/Slice0.lean ====
section
/-! SUPPORT. The model's own tests: well-formedness, one word per constructor written out from the spec's encoding
tables, single steps with the values of 95_test_vectors.md, and a witness for every statement with hypotheses. -/

namespace Sys2Proof.Tests

open Sys2Proof Sys2Proof.Machine

/-- The next state of an outcome. -/
def after (o : Host.Outcome State Fault Refusal) : Option State :=
  match o with
  | .next s => some s
  | _ => none

/-- A state inside a tick, in a sequencer state, with a timer and an input queue. -/
def st (q : Seq) (tmr : Timer) (rxq : List Byte) : State :=
  { State.reset with seq := q, phase := .running, ticks := 1, tmr := tmr, rxq := rxq }

/-- The payload of T7: "A1B2", "C3D4". -/
def twoLines : List Line := [[0x41, 0x31, 0x42, 0x32], [0x43, 0x33, 0x44, 0x34]]

/-- A state of the transfer of `twoLines`, both handshakes done (95_test_vectors.md P1, P4). -/
def xf (q : Seq) (li : Word) (tmr : Timer) (rxq : List Byte) : State :=
  { st q tmr rxq with pay := twoLines, li := li, status := 0x0005, txf := [0x41, 0x42] }

/-! ### Well-formedness: each check refuses an ill-formed term -/

theorem test_ill_formed_header : wellFormed (.hf [0x41, 0x10, 0x03, 0x42]) = false := by decide

theorem test_well_formed_header : wellFormed (.hf [0x41, 0x10, 0x02, 0x03, 0x10]) = true := by decide

theorem test_ill_formed_line_end : wellFormed (.dfEtb [0x41, 0x0D, 0x0A]) = false := by decide

theorem test_ill_formed_line_lf : wellFormed (.dfEtx [0x41, 0x0A]) = false := by decide

theorem test_ill_formed_inner_etb : wellFormed (.dfEtb [0x41, 0x0D, 0x0A, 0x10, 0x17, 0x42]) = false := by decide

theorem test_ill_formed_inner_etx : wellFormed (.dfEtx [0x0D, 0x0A, 0x10, 0x03, 0x42]) = false := by decide

theorem test_well_formed_line : wellFormed (.dfEtx [0x10, 0x03, 0x0D, 0x42]) = true := by decide

/-! ### One word per constructor, written out from 30_encoding.md -/

/-- R60. -/
theorem test_words_c1 :
    decode .c1 [0x01] = .ok .soh [] ∧ decode .c1 [0x02] = .ok .stx [] ∧ decode .c1 [0x03] = .ok .etx [] ∧
    decode .c1 [0x04] = .ok .eot [] ∧ decode .c1 [0x05] = .ok .enq [] ∧ decode .c1 [0x10] = .ok .dle [] ∧
    decode .c1 [0x15] = .ok .nak [] ∧ decode .c1 [0x17] = .ok .etb [] := by decide

/-- R62. -/
theorem test_words_c2 :
    decode .c2 [0x10, 0x30] = .ok .ack0 [] ∧ decode .c2 [0x10, 0x31] = .ok .ack1 [] ∧
    decode .c2 [0x10, 0x01] = .ok .dleSoh [] ∧ decode .c2 [0x10, 0x02] = .ok .dleStx [] ∧
    decode .c2 [0x10, 0x03] = .ok .dleEtx [] ∧ decode .c2 [0x10, 0x17] = .ok .dleEtb [] := by decide

/-- R64, with the CRC of 95_test_vectors.md section 2.2 (`10 01 41 10 03` under XM_NONE). -/
theorem test_word_hf : decode .hf [0x10, 0x01, 0x41, 0x10, 0x03, 0xDD, 0xEA] = .ok (.hf [0x41]) [] := by
  decide +kernel

/-- R65, with the frame of 95_test_vectors.md section 2.5. -/
theorem test_word_df_etb :
    decode .df [0x10, 0x02, 0x41, 0x31, 0x42, 0x32, 0x0D, 0x0A, 0x10, 0x17, 0xF4, 0xFF, 0x05]
      = .ok (.dfEtb [0x41, 0x31, 0x42, 0x32]) [0x05] := by decide +kernel

/-- R65, with the frame of 95_test_vectors.md section 2.5. -/
theorem test_word_df_etx :
    decode .df [0x10, 0x02, 0x43, 0x33, 0x44, 0x34, 0x0D, 0x0A, 0x10, 0x03, 0x5E, 0x5A]
      = .ok (.dfEtx [0x43, 0x33, 0x44, 0x34]) [] := by decide +kernel

/-- R71, the codes 0x00 to 0x0D. -/
theorem test_words_sequencer_low :
    decode .sequencer [0x00] = .ok .cycleStart [] ∧ decode .sequencer [0x01] = .ok .h1WaitEnq [] ∧
    decode .sequencer [0x02] = .ok .h1SendAck0 [] ∧ decode .sequencer [0x03] = .ok .h1Ack0Pause [] ∧
    decode .sequencer [0x04] = .ok .h1ReadBody [] ∧ decode .sequencer [0x05] = .ok .h1ReadCrc [] ∧
    decode .sequencer [0x06] = .ok .h1VerifyCrc [] ∧ decode .sequencer [0x07] = .ok .h1SendAck1 [] ∧
    decode .sequencer [0x08] = .ok .h1WaitEot [] ∧ decode .sequencer [0x09] = .ok .h1Done [] ∧
    decode .sequencer [0x0A] = .ok .h2SendEnq [] ∧ decode .sequencer [0x0B] = .ok .h2WaitAck0 [] ∧
    decode .sequencer [0x0C] = .ok .h2SendId [] ∧ decode .sequencer [0x0D] = .ok .h2WaitAck1 [] := by decide

/-- R71, the codes 0x0E to 0x19, and 0x1A, which is no state. -/
theorem test_words_sequencer_high :
    decode .sequencer [0x0E] = .ok .h2Pause [] ∧ decode .sequencer [0x0F] = .ok .h2SendEot [] ∧
    decode .sequencer [0x10] = .ok .h2Done [] ∧ decode .sequencer [0x11] = .ok .xfNextLine [] ∧
    decode .sequencer [0x12] = .ok .xfSendEnq [] ∧ decode .sequencer [0x13] = .ok .xfWaitAck0 [] ∧
    decode .sequencer [0x14] = .ok .xfBuildFrame [] ∧ decode .sequencer [0x15] = .ok .xfSendFrame [] ∧
    decode .sequencer [0x16] = .ok .xfWaitResp [] ∧ decode .sequencer [0x17] = .ok .xfDone [] ∧
    decode .sequencer [0x18] = .ok .cycleEnd [] ∧ decode .sequencer [0x19] = .ok .h1Ack1Pause [] ∧
    decode .sequencer [0x1A] = .rejected .reservedCode := by decide

/-- R72, the codes 0x00 to 0x0A; the operands' form is log 4's. -/
theorem test_words_unit_low :
    decode .unit [0x00] = .ok .crcClr [] ∧ decode .unit [0x01, 0x41] = .ok (.crcStep 0x41) [] ∧
    decode .unit [0x02, 0x01, 0x41, 0x01, 0x10, 0x00, 0x01] = .ok (.crcFold [0x41, 0x10] .dle) [] ∧
    decode .unit [0x03, 0x01, 0x53, 0x00] = .ok (.frmHs [0x53]) [] ∧
    decode .unit [0x04, 0x01, 0x41, 0x00, 0x01] = .ok (.frmDl [0x41] true) [] ∧
    decode .unit [0x05, 0x01, 0x41, 0x01, 0x0A, 0x00] = .ok (.frmNorm [0x41, 0x0A]) [] ∧
    decode .unit [0x06] = .ok .frmCrc [] ∧ decode .unit [0x07, 0x00, 0x00] = .ok (.frmDf [] false) [] ∧
    decode .unit [0x08, 0x04, 0x01] = .ok (.rcgByte 0x04 .eot) [] ∧ decode .unit [0x09] = .ok .rcgSuffix [] ∧
    decode .unit [0x0A, 0x10, 0x31, 0x01] = .ok (.rcgAck 0x10 0x31 .ack1) [] := by decide

/-- R72, the codes 0x0B to 0x14, and 0x15, which is no operation. -/
theorem test_words_unit_high :
    decode .unit [0x0B] = .ok .rcgResp [] ∧ decode .unit [0x0C] = .ok .waitEnq [] ∧
    decode .unit [0x0D] = .ok .waitEot [] ∧ decode .unit [0x0E, 0x01] = .ok (.waitAck .ack1) [] ∧
    decode .unit [0x0F] = .ok .waitResp [] ∧ decode .unit [0x10] = .ok .rdBody [] ∧
    decode .unit [0x11] = .ok .rdCrc [] ∧ decode .unit [0x12] = .ok .pause [] ∧
    decode .unit [0x13, 0x02] = .ok (.txCtl .ack0) [] ∧ decode .unit [0x14] = .ok .txFrame [] ∧
    decode .unit [0x15] = .rejected .reservedCode ∧
    decode .unit [0x02, 0x00, 0x03] = .rejected .badOperand := by decide

theorem test_encode_hf : encode (.hf [0x41]) = [0x10, 0x01, 0x41, 0x10, 0x03, 0xDD, 0xEA] := by decide +kernel

theorem test_table_words :
    decodeTableWord 8 0x03 = some .h1Ack0Pause ∧ decodeTableWord 8 0x1F = none ∧
    decodeTableWord 16 0x1030 = some .ack0 ∧ decodeTableWord 16 0x1001 = some .dleSoh := by decide

theorem test_fetch_word_runs_first :
    (after (step (State.reset.withFetchWord 8 0x0A))).map (fun t => (t.seq, t.txs.map Prod.snd))
      = some (.h2WaitAck0, [0x05]) := by decide

theorem test_fetch_word_pair :
    (after (step (State.reset.withFetchWord 16 0x1030))).map (fun t => (t.arr, t.port.isNone))
      = some ([0x10, 0x30], true) := by decide

/-! ### Unit operations (95_test_vectors.md section 2) -/

/-- Section 2.1. -/
theorem test_crc_step :
    crcByte 0x0000 0x41 = 0x30C0 ∧ crcByte 0x1234 0x56 = 0xE993 ∧ crcByte 0xFFFF 0xFF = 0x00FF := by decide

/-- Section 2.1: the row that exercises all three taps. -/
theorem test_crc_bit_taps : crcBit 0x4003 false = 0x8000 := by decide

/-- Section 2.2: the nine bytes. -/
theorem test_crc_fold_nine :
    crcOf .none [0x31, 0x32, 0x33, 0x34, 0x35, 0x36, 0x37, 0x38, 0x39] = 0xBB3D := by decide +kernel

/-- Section 2.2: the three modes on one header. -/
theorem test_crc_fold_modes :
    crcOf .none [0x10, 0x01, 0x41, 0x10, 0x03] = 0xEADD ∧ crcOf .dle [0x10, 0x01, 0x41, 0x10, 0x03] = 0x9121 ∧
    crcOf .dleSoh [0x10, 0x01, 0x41, 0x10, 0x03] = 0x5170 := by decide +kernel

/-- Section 2.3: the CRC the engine sends with its identification. -/
theorem test_identification_crc : headerCrc idBytes = 0x026B := by decide +kernel

/-- Section 2.4. -/
theorem test_frm_norm :
    normLine [] = [0x0D, 0x0A] ∧ normLine [0x41, 0x0A, 0x0A] = [0x41, 0x0D, 0x0A] ∧
    normLine [0x0A, 0x41] = [0x0A, 0x41, 0x0D, 0x0A] ∧ normLine [0x41, 0x0D, 0x42] = [0x41, 0x0D, 0x42, 0x0D, 0x0A]
      := by decide

/-- Section 2.5: the DLE of the text is skipped in the CRC. -/
theorem test_frm_df :
    (after (exec (.frmDf [0x10, 0x03] false) State.reset)).map (fun t => (t.txf, t.crc))
      = some ([0x10, 0x02, 0x10, 0x03, 0x0D, 0x0A, 0x10, 0x17, 0xD7, 0x29], 0x29D7) := by decide +kernel

/-- Section 2.6. -/
theorem test_rcg_suffix :
    endsInSuffix [0x10, 0x10, 0x03] = true ∧ endsInSuffix [0x03] = false ∧ endsInSuffix [0x10, 0x17] = false := by
  decide

/-- Section 2.6. -/
theorem test_rcg_ack :
    isAck 0x10 0x30 .ack0 = true ∧ isAck 0x30 0x10 .ack0 = false ∧ isAck 0x10 0x30 .ack1 = false := by decide

/-- Section 2.6. -/
theorem test_rcg_resp_noise :
    (after (exec .rcgResp (st .xfWaitResp 500 [0x05, 0x10, 0x30]))).map (fun t => (t.res, t.rxq))
      = some (.resp .noise 2, [0x05, 0x10, 0x30]) := by decide

/-- Section 2.7. -/
theorem test_wait_enq_discards :
    (after (exec .waitEnq (st .h1WaitEnq 30000 [0x00, 0x05]))).map (fun t => (t.res, t.tmr, t.rxq))
      = some (.code .pending, 29999, [0x05]) := by decide

/-- Section 2.7: the deadline is tested first. -/
theorem test_wait_enq_expired :
    (after (exec .waitEnq (st .h1WaitEnq 0 [0x05]))).map (fun t => (t.res, t.tmr, t.rxq))
      = some (.code .expired, 0, [0x05]) := by decide

/-- Section 2.7. -/
theorem test_wait_eot :
    (after (exec .waitEot (st .h1WaitEot 500 [0x04]))).map (fun t => (t.res, t.tmr, t.rxq))
      = some (.code .matched, 499, []) := by decide

/-- Section 2.7. -/
theorem test_wait_ack_misaligned :
    (after (exec (.waitAck .ack0) (st .h2WaitAck0 500 [0xFF, 0x10, 0x30]))).map (fun t => (t.res, t.tmr, t.rxq))
      = some (.code .pending, 499, [0x30]) := by decide

/-- Section 2.7. -/
theorem test_wait_resp_nak :
    (after (exec .waitResp (st .xfWaitResp 500 [0x15]))).map (fun t => (t.res, t.tmr, t.rxq))
      = some (.code .naked, 499, []) := by decide

/-- Section 2.7. -/
theorem test_rd_body_match :
    (after (exec .rdBody { st .h1ReadBody 3 [0x03, 0xDE, 0x4D] with rxbuf := [0x10, 0x01, 0x41, 0x10] })).map
      (fun t => (t.res, t.tmr, t.rxq)) = some (.code .matched, 500, [0xDE, 0x4D]) := by decide

/-- Section 2.7: data is taken before the timer is looked at. -/
theorem test_rd_body_data_first :
    (after (exec .rdBody (st .h1ReadBody 0 [0x41]))).map (fun t => (t.res, t.tmr, t.rxbuf))
      = some (.code .more, 500, [0x41]) := by decide

/-- Section 2.7. -/
theorem test_rd_crc :
    (after (exec .rdCrc (st .h1ReadCrc 500 [0xDE, 0x4D]))).map (fun t => (t.res, t.rxcrc, t.rxq))
      = some (.code .matched, 0x4DDE, []) := by decide

/-- Section 2.7. -/
theorem test_pause :
    (after (exec .pause (st .h2Pause 5 []))).map (fun t => (t.res, t.tmr)) = some (.code .pending, 4) := by decide

theorem test_tx_ctl :
    (after (exec (.txCtl .ack1) (st .h2Pause 5 []))).map (·.txs) = some [(0, 0x10), (0, 0x31)] := by decide

/-! ### Sequencer states (95_test_vectors.md sections 2.8, 3 and 4) -/

/-- P7, tick 0. -/
theorem test_cycle_start :
    (after (exec .cycleStart (st .cycleStart 0 [0x05]))).map (fun t => (t.seq, t.tmr, t.rxq))
      = some (.h1WaitEnq, 30000, []) := by decide

/-- P7, tick 30000. -/
theorem test_h1_wait_enq_expired :
    (after (exec .h1WaitEnq (st .h1WaitEnq 0 []))).map (fun t => (t.seq, t.status, t.log))
      = some (.h1Done, 0x0043, [⟨0, .h1Fail, 1⟩]) := by decide

/-- Prologue, tick 1. -/
theorem test_h1_send_ack0 :
    (after (exec .h1SendAck0 (st .h1SendAck0 7 []))).map (fun t => (t.seq, t.tmr, t.txs))
      = some (.h1Ack0Pause, 5, [(0, 0x10), (0, 0x30)]) := by decide

theorem test_h1_ack0_pause_over :
    (after (exec .h1Ack0Pause { st .h1Ack0Pause 0 [0x10] with rxbuf := [0x41] })).map (fun t => (t.seq, t.tmr, t.rxbuf))
      = some (.h1ReadBody, 500, []) := by decide

/-- P11. -/
theorem test_h1_read_body_overflow :
    (after (exec .h1ReadBody { st .h1ReadBody 500 [0x41] with rxbuf := List.replicate 256 0x41 })).map
      (fun t => (t.seq, t.status)) = some (.h1Done, 0x00C2) := by decide +kernel

/-- V10: the CRC bytes are raw. -/
theorem test_h1_read_crc :
    (after (exec .h1ReadCrc (st .h1ReadCrc 500 [0x42, 0x10, 0x03]))).map (fun t => (t.seq, t.rxcrc, t.rxq))
      = some (.h1VerifyCrc, 0x1042, [0x03]) := by decide

/-- V10 with the CRC that section 2.2 gives. -/
theorem test_h1_verify_crc_match :
    (after (exec .h1VerifyCrc
      { st .h1VerifyCrc 500 [] with rxbuf := [0x10, 0x01, 0x41, 0x10, 0x03], rxcrc := 0x5170 })).map
      (fun t => (t.seq, t.crc)) = some (.h1SendAck1, 0x5170) := by decide +kernel

/-- V10. -/
theorem test_h1_verify_crc_mismatch :
    (after (exec .h1VerifyCrc
      { st .h1VerifyCrc 500 [] with rxbuf := [0x10, 0x01, 0x41, 0x10, 0x03], rxcrc := 0x1042 })).map
      (fun t => (t.seq, t.status, t.txs)) = some (.h1Done, 0x0082, []) := by decide +kernel

/-- P1, tick 9. -/
theorem test_h1_send_ack1 :
    (after (exec .h1SendAck1 (st .h1SendAck1 0 []))).map (fun t => (t.seq, t.tmr, t.txs))
      = some (.h1WaitEot, 500, [(0, 0x10), (0, 0x31)]) := by decide

/-- V1. -/
theorem test_h1_send_ack1_with_pause :
    (after (exec .h1SendAck1
      { st .h1SendAck1 0 [] with cfg := { Params.default with pauseAfterAck1 := true } })).map
      (fun t => (t.seq, t.tmr)) = some (.h1Ack1Pause, 5) := by decide

/-- P1, tick 11. -/
theorem test_h1_wait_eot :
    (after (exec .h1WaitEot (st .h1WaitEot 498 [0x04]))).map (fun t => (t.seq, t.status, t.log.length))
      = some (.h1Done, 0x0001, 2) := by decide

theorem test_h1_done_after_failure :
    (after (exec .h1Done { st .h1Done 0 [] with status := 0x0082 })).map (·.seq) = some .cycleEnd := by decide

/-- V1, tick 11. -/
theorem test_h1_ack1_pause_over :
    (after (exec .h1Ack1Pause (st .h1Ack1Pause 0 [0x04]))).map (fun t => (t.seq, t.tmr, t.rxq))
      = some (.h1WaitEot, 500, [0x04]) := by decide

/-- P5, tick 506. -/
theorem test_h2_wait_ack0_expired :
    (after (exec .h2WaitAck0 { st .h2WaitAck0 0 [0x10, 0x30] with status := 0x0001 })).map
      (fun t => (t.seq, t.status)) = some (.h2Done, 0x004D) := by decide

/-- Prologue, tick 7. -/
theorem test_h2_send_id :
    (after (exec .h2SendId (st .h2SendId 0 []))).map (fun t => (t.seq, t.crc, t.txs.length))
      = some (.h2WaitAck1, 0x026B, 23) := by decide +kernel

/-- Prologue, tick 8. -/
theorem test_h2_wait_ack1 :
    (after (exec .h2WaitAck1 (st .h2WaitAck1 499 [0x10, 0x31]))).map (fun t => (t.seq, t.tmr, t.rxq))
      = some (.h2Pause, 5, []) := by decide

theorem test_h2_pause_over :
    (after (exec .h2Pause (st .h2Pause 0 []))).map (·.seq) = some .h2SendEot := by decide

/-- Prologue, tick 13. -/
theorem test_h2_send_eot :
    (after (exec .h2SendEot { st .h2SendEot 0 [] with status := 0x0001 })).map (fun t => (t.seq, t.status, t.txs))
      = some (.h2Done, 0x0005, [(0, 0x04)]) := by decide

theorem test_h2_done :
    (after (exec .h2Done { st .h2Done 0 [] with status := 0x0005 })).map (·.seq) = some .xfNextLine := by decide

/-- P8: an empty payload sends no ENQ. -/
theorem test_xf_next_line_empty :
    (after (exec .xfNextLine { st .xfNextLine 0 [] with status := 0x0005 })).map (fun t => (t.seq, t.status, t.txs))
      = some (.xfDone, 0x0015, []) := by decide

/-- P4: no second ENQ. -/
theorem test_xf_next_line_later :
    (after (exec .xfNextLine (xf .xfNextLine 1 0 []))).map (·.seq) = some .xfBuildFrame := by decide

theorem test_xf_send_enq :
    (after (exec .xfSendEnq (xf .xfSendEnq 0 0 []))).map (fun t => (t.seq, t.tmr, t.txs))
      = some (.xfWaitAck0, 500, [(0, 0x05)]) := by decide

/-- P12, tick 513. -/
theorem test_xf_wait_ack0_expired :
    (after (exec .xfWaitAck0 (xf .xfWaitAck0 0 0 []))).map (fun t => (t.seq, t.status)) = some (.xfDone, 0x0075) := by
  decide

/-- P1, tick 22: the first of two lines ends in DLE ETB. -/
theorem test_xf_build_frame :
    (after (exec .xfBuildFrame (xf .xfBuildFrame 0 0 []))).map (fun t => (t.seq, t.txf))
      = some (.xfSendFrame, [0x10, 0x02, 0x41, 0x31, 0x42, 0x32, 0x0D, 0x0A, 0x10, 0x17, 0xF4, 0xFF]) := by
  decide +kernel

/-- P1, tick 25: the last line ends in DLE ETX. -/
theorem test_xf_build_last_frame :
    (after (exec .xfBuildFrame (xf .xfBuildFrame 1 0 []))).map (fun t => (t.seq, t.txf))
      = some (.xfSendFrame, [0x10, 0x02, 0x43, 0x33, 0x44, 0x34, 0x0D, 0x0A, 0x10, 0x03, 0x5E, 0x5A]) := by
  decide +kernel

theorem test_xf_send_frame :
    (after (exec .xfSendFrame (xf .xfSendFrame 1 0 []))).map (fun t => (t.seq, t.tmr, t.txs))
      = some (.xfWaitResp, 500, [(0, 0x41), (0, 0x42)]) := by decide

/-- P3, tick 20. -/
theorem test_xf_wait_resp_nak :
    (after (exec .xfWaitResp (xf .xfWaitResp 0 494 [0x15, 0x15, 0x10, 0x30]))).map (fun t => (t.tmr, t.rxq, t.txs))
      = some (493, [0x15, 0x10, 0x30], [(0, 0x41), (0, 0x42)]) := by decide

/-- P4, tick 514. -/
theorem test_xf_wait_resp_timeout :
    (after (exec .xfWaitResp (xf .xfWaitResp 0 0 [0x10, 0x30]))).map
      (fun t => (t.li, t.status, t.skipped, t.rxq)) = some (1, 0x0105, 1, [0x10, 0x30]) := by decide

theorem test_xf_done : (after (exec .xfDone (xf .xfDone 2 0 []))).map (·.seq) = some .cycleEnd := by decide

/-- P4, tick 517. -/
theorem test_cycle_end :
    (after (exec .cycleEnd { st .cycleEnd 0 [] with status := 0x0115 })).map (fun t => (t.seq, t.log))
      = some (.cycleStart, [⟨0, .cycleEnd, 0x0115⟩]) := by decide

/-- V11: `rst` between two ticks. -/
theorem test_rst :
    (after (step { xf .xfWaitResp 0 498 [0x41] with phase := .waiting, inputs := [.rst] })).map
      (fun t => (t.seq, t.status, t.rxq)) = some (.cycleStart, 0, [0x41]) := by decide

/-! ### Witnesses: a state and operands for the hypotheses of each statement, clause by clause -/

/-- The hypotheses on a line's text and its trailing CR and LF bytes, at their boundaries (FramesAreBuiltAndSent,
NormalisedLineEndsInOneCrLf, DataFrameBuilt). -/
theorem witness_line_parts :
    (noTrailingEol [] = true ∧ ∀ b ∈ ([] : List Byte), b = 0x0D ∨ b = 0x0A) ∧
    (noTrailingEol [0x0A, 0x41] = true ∧ ∀ b ∈ ([0x0D, 0x0A, 0x0A] : List Byte), b = 0x0D ∨ b = 0x0A) := by decide

theorem witness_CrcStepFollowsWiring : (0 < 8 ∧ 0 < 16) ∧ (7 < 8 ∧ 15 < 16) ∧ (7 < 8 ∧ 13 < 16) := by decide

theorem witness_ResponseClassified :
    ((st .xfWaitResp 1 []).rxq = []) ∧
    ((st .xfWaitResp 1 [0x15]).rxq = 0x15 :: []) ∧
    ((st .xfWaitResp 1 [0x10]).rxq = [0x10] ∧ (0x10 : Byte) ≠ 0x15) ∧
    ((st .xfWaitResp 1 [0x10, 0x31]).rxq = 0x10 :: 0x31 :: [] ∧ ((0x31 : Byte) = 0x30 ∨ (0x31 : Byte) = 0x31)) ∧
    ((st .xfWaitResp 1 [0x10, 0x32]).rxq = 0x10 :: 0x32 :: [] ∧ (0x10 : Byte) ≠ 0x15 ∧
      ¬((0x10 : Byte) = 0x10 ∧ ((0x32 : Byte) = 0x30 ∨ (0x32 : Byte) = 0x31))) := by decide

/-- WaitForControlByte, H1WaitEnqRule and H1WaitEotRule: an expired timer, the last attempt with nothing there, with
the awaited byte, with its neighbour. -/
theorem witness_one_byte_waits :
    (Instr.waitEnq, (0x05 : Byte)) ∈ [(Instr.waitEnq, (0x05 : Byte)), (.waitEot, 0x04)] ∧
    (Instr.waitEot, (0x04 : Byte)) ∈ [(Instr.waitEnq, (0x05 : Byte)), (.waitEot, 0x04)] ∧
    (st .h1WaitEnq 0 [0x05]).tmr = 0 ∧
    ((st .h1WaitEnq 1 []).tmr ≠ 0 ∧ (st .h1WaitEnq 1 []).rxq = []) ∧
    ((st .h1WaitEnq 1 [0x05]).tmr ≠ 0 ∧ (st .h1WaitEnq 1 [0x05]).rxq = 0x05 :: []) ∧
    ((st .h1WaitEnq 1 [0x04]).tmr ≠ 0 ∧ (st .h1WaitEnq 1 [0x04]).rxq = 0x04 :: [] ∧ (0x04 : Byte) ≠ 0x05) ∧
    ((st .h1WaitEot 1 [0x04]).tmr ≠ 0 ∧ (st .h1WaitEot 1 [0x04]).rxq = 0x04 :: []) ∧
    ((st .h1WaitEot 1 [0x05]).tmr ≠ 0 ∧ (st .h1WaitEot 1 [0x05]).rxq = 0x05 :: [] ∧ (0x05 : Byte) ≠ 0x04) := by
  decide

/-- WaitForAck and AckWaitRules: an expired timer, one byte there, each pair, and the other pair. -/
theorem witness_ack_waits :
    (AckNo.ack0, (0x30 : Byte)) ∈ [(AckNo.ack0, (0x30 : Byte)), (.ack1, 0x31)] ∧
    (AckNo.ack1, (0x31 : Byte)) ∈ [(AckNo.ack0, (0x30 : Byte)), (.ack1, 0x31)] ∧
    (st .h2WaitAck0 0 [0x10, 0x30]).tmr = 0 ∧
    ((st .h2WaitAck0 1 [0x10]).tmr ≠ 0 ∧ (st .h2WaitAck0 1 [0x10]).rxq.length < 2) ∧
    ((st .h2WaitAck0 1 [0x10, 0x30]).tmr ≠ 0 ∧ (st .h2WaitAck0 1 [0x10, 0x30]).rxq = 0x10 :: 0x30 :: []) ∧
    ((st .h2WaitAck1 1 [0x10, 0x31]).tmr ≠ 0 ∧ (st .h2WaitAck1 1 [0x10, 0x31]).rxq = 0x10 :: 0x31 :: []) ∧
    ((st .h2WaitAck0 1 [0x10, 0x31]).rxq = 0x10 :: 0x31 :: [] ∧ ¬((0x10 : Byte) = 0x10 ∧ (0x31 : Byte) = 0x30)) ∧
    ((st .h2WaitAck1 1 [0x10, 0x30]).rxq = 0x10 :: 0x30 :: [] ∧ ¬((0x10 : Byte) = 0x10 ∧ (0x30 : Byte) = 0x31)) := by
  decide

/-- WaitForResponse and LineResponseRules. -/
theorem witness_response_waits :
    ((xf .xfWaitResp 0xFFFE 0 [0x15]).tmr = 0 ∧ (xf .xfWaitResp 0xFFFE 0 [0x15]).li ≠ 0xFFFF ∧
      (xf .xfWaitResp 0xFFFE 0 [0x15]).skipped ≠ 0xFFFF) ∧
    ((xf .xfWaitResp 0 1 []).tmr ≠ 0 ∧ (xf .xfWaitResp 0 1 []).rxq = []) ∧
    ((xf .xfWaitResp 0 1 [0x15, 0x15]).tmr ≠ 0 ∧ (xf .xfWaitResp 0 1 [0x15, 0x15]).rxq = 0x15 :: [0x15]) ∧
    ((xf .xfWaitResp 0 1 [0x10]).tmr ≠ 0 ∧ (xf .xfWaitResp 0 1 [0x10]).rxq = [0x10] ∧ (0x10 : Byte) ≠ 0x15) ∧
    ((xf .xfWaitResp 0 1 [0x10, 0x30]).tmr ≠ 0 ∧ (xf .xfWaitResp 0 1 [0x10, 0x30]).rxq = 0x10 :: 0x30 :: [] ∧
      ((0x30 : Byte) = 0x30 ∨ (0x30 : Byte) = 0x31)) ∧
    ((xf .xfWaitResp 0 1 [0x00, 0x15]).tmr ≠ 0 ∧ (xf .xfWaitResp 0 1 [0x00, 0x15]).rxq = 0x00 :: 0x15 :: [] ∧
      (0x00 : Byte) ≠ 0x15 ∧ ¬((0x00 : Byte) = 0x10 ∧ ((0x15 : Byte) = 0x30 ∨ (0x15 : Byte) = 0x31))) := by
  decide

/-- A state in the body read with a full buffer, or with a buffer of the given bytes. -/
def body (buf : List Byte) (tmr : Timer) (rxq : List Byte) : State := { st .h1ReadBody tmr rxq with rxbuf := buf }

/-- BodyReadOneByte and H1ReadBodyRule: the full buffer; idle time over and left; a byte that completes the body; a
byte that does not. -/
theorem witness_body_reads :
    (body (List.replicate 256 0x41) 1 [0x03]).rxbuf.length = (body (List.replicate 256 0x41) 1 [0x03]).cfg.bodyMax ∧
    ((body [] 0 []).rxbuf.length ≠ (body [] 0 []).cfg.bodyMax ∧ (body [] 0 []).rxq = [] ∧ (body [] 0 []).tmr = 0) ∧
    ((body [] 1 []).rxbuf.length ≠ (body [] 1 []).cfg.bodyMax ∧ (body [] 1 []).rxq = [] ∧ (body [] 1 []).tmr ≠ 0) ∧
    ((body [0x10] 0 [0x03]).rxbuf.length ≠ (body [0x10] 0 [0x03]).cfg.bodyMax ∧
      (body [0x10] 0 [0x03]).rxq = 0x03 :: [] ∧
      ∃ front, (body [0x10] 0 [0x03]).rxbuf ++ [0x03] = front ++ [0x10, 0x03]) ∧
    ((body [0x10] 0 [0x17]).rxbuf.length ≠ (body [0x10] 0 [0x17]).cfg.bodyMax ∧
      (body [0x10] 0 [0x17]).rxq = 0x17 :: [] ∧
      ¬∃ front, (body [0x10] 0 [0x17]).rxbuf ++ [0x17] = front ++ [0x10, 0x03]) := by
  refine ⟨List.length_replicate, by decide, by decide,
    ⟨by decide, rfl, [], rfl⟩, ⟨by decide, rfl, fun h => ?_⟩⟩
  have := (endsInSuffix_iff _).2 h
  revert this
  decide

/-- CrcReadAndPause, H1ReadCrcRule and PauseStates. -/
theorem witness_crc_read_and_pause :
    (st .h1ReadCrc 0 [0xDE, 0x4D]).rxq = 0xDE :: 0x4D :: [] ∧
    ((st .h1ReadCrc 0 [0xDE]).rxq.length < 2 ∧ (st .h1ReadCrc 0 [0xDE]).tmr = 0) ∧
    ((st .h1ReadCrc 1 [0xDE]).rxq.length < 2 ∧ (st .h1ReadCrc 1 [0xDE]).tmr ≠ 0) ∧
    (st .h2Pause 0 []).tmr = 0 ∧ (st .h2Pause 1 []).tmr ≠ 0 := by decide

theorem witness_TokenSendingStates :
    (st .h1SendAck1 0 []).cfg.pauseAfterAck1 = false ∧
    ({ st .h1SendAck1 0 [] with cfg := { Params.default with pauseAfterAck1 := true } } : State).cfg.pauseAfterAck1
      = true := by decide

theorem witness_H1VerifyCrcRule :
    ((([0x10, 0x01, 0x41, 0x10, 0x03] : List Byte).filter fun b => b != 0x10 && b != 0x01).foldl crcByte 0x0000
      = 0x5170) ∧
    ((([0x10, 0x01, 0x41, 0x10, 0x03] : List Byte).filter fun b => b != 0x10 && b != 0x01).foldl crcByte 0x0000
      ≠ 0x5171) := by decide +kernel

/-- DoneStates: a success and the failure next to it, in each field. -/
theorem witness_DoneStates :
    (0x0001 : Word).toNat % 4 = 1 ∧ (0x0082 : Word).toNat % 4 ≠ 1 ∧ (0x0005 : Word).toNat / 4 % 4 = 1 ∧
    (0x004D : Word).toNat / 4 % 4 ≠ 1 := by decide

theorem witness_NextLineRule :
    (xf .xfNextLine 2 0 []).pay.length ≤ (xf .xfNextLine 2 0 []).li.toNat ∧
    ((xf .xfNextLine 0 0 []).li.toNat < (xf .xfNextLine 0 0 []).pay.length ∧ (xf .xfNextLine 0 0 []).li = 0) ∧
    ((xf .xfNextLine 1 0 []).li.toNat < (xf .xfNextLine 1 0 []).pay.length ∧ (xf .xfNextLine 1 0 []).li ≠ 0) := by
  decide

/-- LineFramedAndSent: a line that is not the last, and the last one. -/
theorem witness_LineFramedAndSent :
    ((xf .xfBuildFrame 0 0 []).pay[(xf .xfBuildFrame 0 0 []).li.toNat]? = some ([0x41, 0x31, 0x42, 0x32] ++ []) ∧
      noTrailingEol [0x41, 0x31, 0x42, 0x32] = true ∧ ∀ b ∈ ([] : List Byte), b = 0x0D ∨ b = 0x0A) ∧
    ((xf .xfBuildFrame 1 0 []).pay[(xf .xfBuildFrame 1 0 []).li.toNat]? = some ([0x43, 0x33, 0x44, 0x34] ++ []) ∧
      (xf .xfBuildFrame 1 0 []).li.toNat + 1 = (xf .xfBuildFrame 1 0 []).pay.length) := by decide

/-- A parameter set with the tightest payload bounds for `twoLines`. -/
def tight : Params := { Params.default with lineMax := 4, nlinesMax := 2 }

/-- CycleBoundary, ResetTable: a payload exactly at its bounds. -/
theorem witness_payload_at_bounds :
    twoLines.length ≤ tight.nlinesMax ∧ ∀ l ∈ twoLines, (stripEol l).length ≤ tight.lineMax := by decide

/-- R279's peer: a NAK before every tick, without end. -/
theorem test_recurring_begins_again :
    (after (step { xf .xfWaitResp 0 3 [] with phase := .waiting, recurring := [.arrive [0x15], .tick] })).map
      (fun t => (t.arr, t.inputs, t.recurring)) = some ([0x15], [.tick], [.arrive [0x15], .tick]) := by decide

/-- EnvironmentActs, for each action, listed or recurring, and for neither. -/
theorem witness_EnvironmentActs (i : Input) :
    legalParams ({ State.reset with inputs := [i] } : State).cfg = true ∧
    ({ State.reset with inputs := [i] } : State).port = none ∧
    ({ State.reset with inputs := [i] } : State).phase = .waiting ∧
    ({ State.reset with inputs := [i] } : State).inputs = i :: [] ∧
    (State.reset.inputs = [] ∧ State.reset.recurring = []) ∧
    (({ State.reset with recurring := [i] } : State).inputs = [] ∧
      ({ State.reset with recurring := [i] } : State).recurring = i :: []) :=
  ⟨(by decide : legalParams Params.default = true), rfl, rfl, rfl, ⟨rfl, rfl⟩, rfl, rfl⟩

theorem witness_StepRunsDecodedInstruction :
    (legalParams (State.reset.withFetchWord 16 0x1030).cfg = true ∧
      (State.reset.withFetchWord 16 0x1030).idling = false ∧
      decode (State.reset.withFetchWord 16 0x1030).fetch.format (State.reset.withFetchWord 16 0x1030).fetch.bytes
        = .ok .ack0 []) ∧
    ((st .h1Done 0 []).port = none ∧ legalParams (st .h1Done 0 []).cfg = true ∧ (st .h1Done 0 []).phase = .running)
      := by decide

/-- WhereTheModelStops: each parameter one step outside its range, a payload one line and one byte too long, an index
one past the last line, an unassigned unit-operation code. -/
theorem witness_WhereTheModelStops :
    ¬((0 : Nat) < 0) ∧ ¬((20 : Nat) ∣ 50) ∧ ¬((10 : Nat) ∣ 5005) ∧ ¬((4 : Nat) ≤ 3) ∧ ¬((65536 : Nat) ≤ 65535) ∧
    ¬(twoLines.length ≤ ({ tight with nlinesMax := 1 } : Params).nlinesMax) ∧
    ¬(∀ l ∈ twoLines, (stripEol l).length ≤ ({ tight with lineMax := 3 } : Params).lineMax) ∧
    (xf .xfBuildFrame 2 0 []).pay.length ≤ (xf .xfBuildFrame 2 0 []).li.toNat ∧
    (legalParams State.reset.cfg = true ∧ decode .unit [0x15] = .rejected .reservedCode) := by decide

/-- WhereTheModelStops and StepRunsDecodedInstruction: each parameter just outside its range, and at its edge. -/
theorem witness_illegal_parameters :
    legalParams { Params.default with tPollMs := 20 } = false ∧ legalParams { Params.default with tPollMs := 0 } = false ∧
    legalParams { Params.default with tRxbyteMs := 5005 } = false ∧
    legalParams { Params.default with tRxbyteMs := 42949672960 } = false ∧
    legalParams { Params.default with tRxbyteMs := 42949672950 } = true ∧
    legalParams { Params.default with bodyMax := 3 } = false ∧ legalParams { Params.default with bodyMax := 4 } = true ∧
    legalParams { Params.default with nlinesMax := 65536 } = false ∧
    legalParams { Params.default with rxqDepth := some 64 } = false ∧
    legalParams { Params.default with tPollMs := 50 } = true := by decide

theorem witness_ForcedCodeEndsCycle :
    legalParams State.reset.cfg = true ∧ (0x1A ≤ 0x1A ∧ 0x1A ≤ 0x1F) ∧ (0x1A ≤ 0x1F ∧ 0x1F ≤ 0x1F) := by decide

theorem witness_DecodeOfEncode :
    wellFormed (.hf [0x10]) = true ∧ wellFormed (.dfEtx []) = true ∧ wellFormed (.dfEtb [0x0D, 0x0A, 0x10]) = true ∧
    wellFormed (.crcFold [0x01, 0x00] .dleSoh) = true := by decide

theorem witness_EncodeOfDecode :
    decode .df [0x10, 0x02, 0x0D, 0x0A, 0x10, 0x03, 0xD7, 0x62, 0x05] = .ok (.dfEtx []) [0x05] ∧
    decode .c2 [0x10, 0x17] = .ok .dleEtb [] ∧ Format.df ≠ .sequencer ∧ Format.df ≠ .unit := by decide +kernel

/-- A state of the transfer with an ACK in the queue meets every invariant. -/
theorem witness_invariants :
    (xf .xfWaitResp 1 500 [0x10, 0x31]).undisturbed ∧ (xf .xfWaitResp 1 500 [0x10, 0x31]).buffersFit ∧
    (xf .xfWaitResp 1 500 [0x10, 0x31]).statusLegal ∧ (xf .xfWaitResp 1 500 [0x10, 0x31]).lineIndexFits ∧
    (xf .xfWaitResp 1 500 [0x10, 0x31]).stagesInOrder ∧ (xf .xfWaitResp 1 500 [0x10, 0x31]).timerBounded ∧
    (xf .xfWaitResp 1 500 [0x10, 0x31]).ack1PauseAllowed ∧ (xf .xfWaitResp 1 500 [0x10, 0x31]).phase = .running ∧
    ({ Params.default with tRxbyteMs := 300000 } : Params).tRxbyteMs ≤ 300000 := by
  refine ⟨rfl, ⟨by decide, by decide, by decide⟩, ⟨by decide, by decide, by decide, by decide⟩,
    ⟨by decide, by decide, by decide, by decide⟩, ⟨by decide, by decide⟩, ?_, fun h => (by cases h), rfl, by decide⟩
  unfold State.timerBounded
  decide

/-- ... and its step answers next (BuffersStayWithinCapacity, StatusStaysLegal, LineIndexStaysInside,
StagesRunInOrder, TimerAndPauseStayBounded, TransitionsAreTheTable, OutputStreamsOnlyGrow, EngineNeverFaults). -/
theorem witness_invariant_step :
    (after (step (xf .xfWaitResp 1 500 [0x10, 0x31]))).map (fun t => (t.seq, t.li)) = some (.xfNextLine, 2) := by decide

/-- EveryTickEnds and FatalErrorRestartsCycle. -/
theorem witness_EveryTickEnds :
    legalParams (xf .xfWaitResp 1 500 []).cfg = true ∧ (xf .xfWaitResp 1 500 []).undisturbed ∧
    (xf .xfWaitResp 1 500 []).phase = .running ∧ (xf .xfWaitResp 1 500 []).lineIndexFits ∧
    payloadLegal (xf .xfWaitResp 1 500 []).cfg (xf .xfWaitResp 1 500 []).src = true :=
  ⟨by decide, rfl, rfl, ⟨by decide, by decide, by decide, by decide⟩, by decide⟩

/-- LogIsOutputOnly and InputQueueReadAtFront. -/
theorem witness_exec_answers : (after (exec .waitResp (xf .xfWaitResp 1 500 [0x15]))).isSome = true := by decide

/-- SilentPeerExpiresOnTime, at a wait's first and at its last attempt, and in the line window. -/
theorem witness_SilentPeerExpiresOnTime :
    (Seq.h1WaitEnq, Seq.h1Done, Stage.h1) ∈ [(Seq.h1WaitEnq, Seq.h1Done, Stage.h1), (.h1WaitEot, .h1Done, .h1),
      (.h2WaitAck0, .h2Done, .h2), (.h2WaitAck1, .h2Done, .h2), (.xfWaitAck0, .xfDone, .xf)] ∧
    (legalParams (st .h1WaitEnq 30000 []).cfg = true ∧ (st .h1WaitEnq 30000 []).undisturbed ∧
      (st .h1WaitEnq 30000 []).phase = .running ∧ (st .h1WaitEnq 30000 []).silent) ∧
    ((st .xfWaitAck0 0 []).undisturbed ∧ (st .xfWaitAck0 0 []).phase = .running ∧ (st .xfWaitAck0 0 []).silent) ∧
    ((xf .xfWaitResp 0xFFFE 500 []).seq = .xfWaitResp ∧ (xf .xfWaitResp 0xFFFE 500 []).li ≠ 0xFFFF ∧
      (xf .xfWaitResp 0xFFFE 500 []).skipped ≠ 0xFFFF ∧ (xf .xfWaitResp 0xFFFE 500 []).undisturbed ∧
      (xf .xfWaitResp 0xFFFE 500 []).silent) :=
  ⟨by decide, ⟨by decide, rfl, rfl, rfl, rfl, rfl, rfl⟩, ⟨rfl, rfl, rfl, rfl, rfl, rfl⟩,
    ⟨rfl, by decide, by decide, rfl, rfl, rfl, rfl, rfl⟩⟩

/-- A state that waits for the next tick with one attempt left. -/
def waits (q : Seq) : State := { st q 1 [] with phase := .waiting }

/-- TokensAreRecognisedByState, for each waiting state. -/
theorem witness_TokensAreRecognisedByState (q : Seq) :
    legalParams (waits q).cfg = true ∧ (waits q).undisturbed ∧ (waits q).phase = .waiting ∧ (waits q).silent ∧
    (waits q).tmr ≠ 0 ∧ (waits q).seq = q :=
  ⟨(by decide : legalParams Params.default = true), rfl, rfl, ⟨rfl, rfl, rfl, rfl⟩, by show (1 : Timer) ≠ 0; decide,
    rfl⟩

/-- ... and for each of its six clauses. -/
theorem witness_tokens_by_clause :
    (Seq.xfWaitResp, Instr.ack1, Seq.xfNextLine) ∈ [(Seq.xfWaitResp, Instr.ack1, Seq.xfNextLine)] ∧
    (Instr.eot.format = .c1 ∧ (waits .h1WaitEnq).seq = .h1WaitEnq ∧ Instr.eot ≠ .enq) ∧
    (Instr.enq.format = .c1 ∧ (waits .h1WaitEot).seq = .h1WaitEot ∧ Instr.enq ≠ .eot) ∧
    (Instr.ack0.format = .c2 ∧ (waits .h1WaitEnq).seq = .h1WaitEnq) ∧
    (Instr.ack1.format = .c2 ∧ (waits .xfWaitAck0).seq ∈ [Seq.h2WaitAck0, .xfWaitAck0] ∧ Instr.ack1 ≠ .ack0) ∧
    (Instr.ack0.format = .c2 ∧ (waits .h2WaitAck1).seq = .h2WaitAck1 ∧ Instr.ack0 ≠ .ack1) ∧
    (Instr.dleEtb.format = .c2 ∧ (waits .xfWaitResp).seq = .xfWaitResp ∧ Instr.dleEtb ≠ .ack0 ∧
      Instr.dleEtb ≠ .ack1) ∧
    (Instr.dle.format = .c1 ∧ (waits .h2WaitAck0).seq ∈ [Seq.h2WaitAck0, .h2WaitAck1, .xfWaitAck0]) ∧
    (Instr.dle.format = .c1 ∧ (waits .xfWaitResp).seq = .xfWaitResp ∧ Instr.dle ≠ .nak) := by decide

/-- A line waiting for its response from a peer that sends NAK before every `gap`-th tick. -/
def naks (restarts : Bool) (gap : Nat) : State :=
  { xf .xfWaitResp 0xFFFE 1 [] with
    phase := .waiting, cfg := { Params.default with nakRestartsWindow := restarts }
    recurring := .arrive [0x15] :: List.replicate gap .tick }

/-- NakWithoutEnd: for each value of the parameter, and with a NAK every tick and once a window. -/
theorem witness_NakWithoutEnd (gap : Nat) :
    ((naks true gap).seq = .xfWaitResp ∧ (naks true gap).undisturbed ∧ (naks true gap).phase = .waiting ∧
      (naks true gap).nakEvery gap ∧ (naks true gap).tmr ≠ 0 ∧ (naks true gap).cfg.nakRestartsWindow = true) ∧
    ((naks false gap).nakEvery gap ∧ (naks false gap).cfg.nakRestartsWindow = false ∧ (naks false gap).li ≠ 0xFFFF ∧
      (naks false gap).skipped ≠ 0xFFFF) :=
  ⟨⟨rfl, rfl, rfl, ⟨rfl, rfl, rfl, rfl⟩, (by decide : (1 : Timer) ≠ 0), rfl⟩,
    ⟨rfl, rfl, rfl, rfl⟩, rfl, (by decide : (0xFFFE : Word) ≠ 0xFFFF), (by decide : (0 : Word) ≠ 0xFFFF)⟩

theorem witness_nak_gaps :
    legalParams (naks true 1).cfg = true ∧ legalParams (naks false 1).cfg = true ∧
    (0 < 1 ∧ 1 ≤ 5000 / (naks true 1).cfg.tPollMs) ∧ (0 < 500 ∧ 500 ≤ 5000 / (naks true 500).cfg.tPollMs) := by decide

end Sys2Proof.Tests
end

section
/-! The reset table (R37): `rst`, and the `CYCLE_START` that follows it. -/

namespace Sys2Proof.Machine

/-- `CYCLE_START` on a payload within the bounds of R56, as one update of the state (R201): the receive queue is
emptied, the registers of R37 take their reset values, the payload is copied and the wait for ENQ begins. -/
theorem exec_cycleStart_of_payloadLegal {s : State} (h : payloadLegal s.cfg s.src = true) :
    exec .cycleStart s = .next { s with
      rxq := [], pay := s.src, crc := 0, rxcrc := 0, rxbuf := [], txf := [], li := 0, status := 0, skipped := 0
      log := s.log ++ [⟨s.now, .cycleStart, 0⟩], tmr := nEnq s.cfg, seq := .h1WaitEnq, phase := .running } := by
  rcases payLoad_cases s with ⟨-, hload⟩ | ⟨hillegal, -⟩
  · simp only [exec, execCycleStart, hload]
    rfl
  · simp [h] at hillegal

/-- Settles O33: the column after `rst` is the laws of `State.rst`; the column after `CYCLE_START` is read off its
update of the state, which R56's bounds on the payload source allow. -/
theorem resetTable : Obligations.ResetTable := by
  unfold Obligations.ResetTable
  constructor
  · intro s
    simp [Seq.code]
  · intro s hlines hline
    have hlegal : payloadLegal s.cfg s.src = true := (payloadLegal_iff _ _).mpr ⟨hlines, hline⟩
    exact ⟨_, exec_cycleStart_of_payloadLegal hlegal,
      rfl, rfl, rfl, rfl, rfl, rfl, rfl, rfl, rfl, rfl, rfl, rfl, rfl, rfl⟩

end Sys2Proof.Machine
end

section
/-! The CRC-16 unit (R91 to R93): one iteration of CRC.STEP bit by bit, and CRC.FOLD as a fold over the bytes its
mode does not exclude. -/

namespace Sys2Proof.Machine

/-! ### CRC.STEP (R91) -/

/-- The mask clears the three bits that the feedbacks fill (R91). -/
theorem getLsbD_crcMask {k : Nat} (hk : k < 16) : crcMask.getLsbD k = decide (k ≠ 0 ∧ k ≠ 13 ∧ k ≠ 15) := by
  revert k
  decide

/-- A feedback shifted to position `n` fills that bit and no other (R91). -/
theorem getLsbD_feedback (f : Bool) {n k : Nat} (hk : k < 16) :
    ((BitVec.ofBool f).setWidth 16 <<< n : Word).getLsbD k = (decide (k = n) && f) := by
  rcases Nat.lt_trichotomy k n with hlt | rfl | hgt
  · simp [hlt, hlt.ne]
  · simp [hk]
  · simp [hk, hgt.ne', Nat.sub_ne_zero_of_lt hgt]

/-- The wiring of one iteration: bits 15, 13 and 0 take the feedbacks, every other bit the one above it (R91). -/
theorem getLsbD_crcBit (s : Word) (d : Bool) {k : Nat} (hk : k < 16) :
    (crcBit s d).getLsbD k =
      (if k = 15 then s.getLsbD 0 ^^ d
       else if k = 13 then s.getLsbD 14 ^^ (s.getLsbD 0 ^^ d)
       else if k = 0 then s.getLsbD 1 ^^ (s.getLsbD 0 ^^ d)
       else s.getLsbD (k + 1)) := by
  have h0 := getLsbD_feedback (s.getLsbD 1 ^^ (s.getLsbD 0 ^^ d)) (n := 0) hk
  rw [BitVec.shiftLeft_zero] at h0
  simp only [crcBit, BitVec.getLsbD_or, BitVec.getLsbD_and, BitVec.getLsbD_ushiftRight, getLsbD_crcMask hk,
    getLsbD_feedback _ hk, h0, Nat.add_comm 1 k]
  by_cases k15 : k = 15
  · simp [k15]
  by_cases k13 : k = 13
  · simp [k13]
  by_cases k0 : k = 0
  · simp [k0]
  · simp [k15, k13, k0]

/-- The state of CRC.STEP before iteration `j`, from `s` with the bits of `b` (R91). -/
def crcIter (s : Word) (b : Byte) : Nat → Word
  | 0 => s
  | j + 1 => crcBit (crcIter s b j) (b.getLsbD j)

/-- CRC.STEP is eight iterations (R91). -/
theorem crcByte_eq_crcIter (s : Word) (b : Byte) : crcByte s b = crcIter s b 8 := rfl

theorem exec_crcStep (b : Byte) (s : State) : exec (.crcStep b) s = .next { s with crc := crcByte s.crc b } := rfl

/-- Settles O3: the states between the iterations are those of `crcIter`, each wired to the one before it. -/
theorem crcStepFollowsWiring : Obligations.CrcStepFollowsWiring := by
  unfold Obligations.CrcStepFollowsWiring
  intro s b
  refine ⟨crcIter s.crc b, rfl, fun j _ k hk => ?_, ?_⟩
  · exact getLsbD_crcBit (crcIter s.crc b j) (b.getLsbD j) hk
  · rw [exec_crcStep, crcByte_eq_crcIter]

/-! ### CRC.FOLD (R93) -/

/-- An excluded byte is as if it were not in the sequence (R93). -/
theorem crcOf_eq_foldl_filter (xm : Xm) (bytes : List Byte) :
    crcOf xm bytes = (bytes.filter fun b => !excluded xm b).foldl crcByte 0x0000 := by
  rw [List.foldl_filter]
  unfold crcOf crcInit
  congr 1
  funext c b
  cases excluded xm b <;> rfl

/-- `XM_NONE` folds every byte (R93). -/
theorem crcOf_none (bytes : List Byte) : crcOf .none bytes = bytes.foldl crcByte 0x0000 := rfl

/-- `XM_DLE` folds the bytes other than DLE (R93). -/
theorem crcOf_dle (bytes : List Byte) :
    crcOf .dle bytes = (bytes.filter fun b => b != 0x10).foldl crcByte 0x0000 :=
  crcOf_eq_foldl_filter .dle bytes

/-- `XM_DLE_SOH` folds the bytes other than DLE and SOH (R93). -/
theorem crcOf_dleSoh (bytes : List Byte) :
    crcOf .dleSoh bytes = (bytes.filter fun b => b != 0x10 && b != 0x01).foldl crcByte 0x0000 := by
  rw [crcOf_eq_foldl_filter]
  simp [excluded, bDLE, bSOH, bne]

theorem exec_crcClr (s : State) : exec .crcClr s = .next { s with crc := 0x0000 } := rfl

theorem exec_crcFold (bytes : List Byte) (xm : Xm) (s : State) :
    exec (.crcFold bytes xm) s = .next { s with crc := crcOf xm bytes } := rfl

/-- Settles O6: CRC.CLR writes `CRC_INIT`, and each mode's fold is the fold over the bytes it keeps. -/
theorem crcFoldSkipsExcludedBytes : Obligations.CrcFoldSkipsExcludedBytes := by
  unfold Obligations.CrcFoldSkipsExcludedBytes
  intro s bytes
  refine ⟨exec_crcClr s, ?_, ?_, ?_⟩
  · rw [exec_crcFold, crcOf_none]
  · rw [exec_crcFold, crcOf_dle]
  · rw [exec_crcFold, crcOf_dleSoh]

end Sys2Proof.Machine
end

section
/-! The identification frame of handshake 2 (R104, R160, R163). -/

namespace Sys2Proof.Machine

/-- The stages of R104 on any identification: the whole header is folded into the CRC, which follows it low byte
first, and the frame that is sent is the frame that `txf` holds. -/
theorem sendHeader_eq (ident : List Byte) (s : State) :
    s.sendHeader ident = { s with
      txf := headerFrame ident, crc := headerCrc ident
      txs := s.txs ++ (headerFrame ident).map fun b => (s.now, b) } := rfl

/-- `H2_SEND_ID` as one update of the state (R163). -/
theorem exec_h2SendId (s : State) :
    exec .h2SendId s = .next { s with
      txf := headerFrame idBytes, crc := headerCrc idBytes
      txs := s.txs ++ (headerFrame idBytes).map fun b => (s.now, b)
      log := s.log ++ [⟨s.now, .h2IdTx, headerCrc idBytes⟩], tmr := nAck s.cfg
      seq := .h2WaitAck1, phase := .running } := by
  simp only [exec, execH2SendId, sendHeader_eq]
  rfl

/-- The 21 bytes under the CRC: DLE SOH, `SWR0010001`, `R`, `R01L01`, DLE ETX (R104, R160). -/
theorem headerBody_idBytes :
    headerBody idBytes = [0x10, 0x01, 0x53, 0x57, 0x52, 0x30, 0x30, 0x31, 0x30, 0x30, 0x30, 0x31, 0x52, 0x52, 0x30,
      0x31, 0x4C, 0x30, 0x31, 0x10, 0x03] := rfl

/-- The CRC of the identification header, by folding its 21 bytes (R104). -/
theorem headerCrc_idBytes : headerCrc idBytes = 0x026B := by
  rw [headerCrc, headerBody_idBytes]
  decide +kernel

/-- The identification frame on the wire: the CRC follows the header, low byte first (R104, R106). -/
theorem headerFrame_idBytes :
    headerFrame idBytes = [0x10, 0x01, 0x53, 0x57, 0x52, 0x30, 0x30, 0x31, 0x30, 0x30, 0x30, 0x31, 0x52, 0x52, 0x30,
      0x31, 0x4C, 0x30, 0x31, 0x10, 0x03, 0x6B, 0x02] := by
  rw [headerFrame, headerCrc_idBytes, headerBody_idBytes]
  rfl

/-- Settles O28: the state's update in terms of the frame and its CRC, and the two as bytes. -/
theorem identificationFrameSent : Obligations.IdentificationFrameSent := by
  unfold Obligations.IdentificationFrameSent
  intro s
  rw [exec_h2SendId, headerFrame_idBytes, headerCrc_idBytes]
  rfl

end Sys2Proof.Machine
end

section
/-! The transmitter (R128, R129): a bare token or the frame register joins TXS, and no other field changes. -/

namespace Sys2Proof.Machine

/-- A write and a flush come to one update of the state, of TXS alone (R128). -/
theorem sendToken_eq (t : Token) (s : State) :
    s.sendToken t = { s with txs := s.txs ++ (tokenBytes t).map fun b => (s.now, b) } := rfl

/-- The same for the frame register, which is read and kept (R129). -/
theorem sendFrame_eq (s : State) :
    s.sendFrame = { s with txs := s.txs ++ s.txf.map fun b => (s.now, b) } := rfl

theorem tokenBytes_enq : tokenBytes .enq = [0x05] := rfl

theorem tokenBytes_eot : tokenBytes .eot = [0x04] := rfl

theorem tokenBytes_ack0 : tokenBytes .ack0 = [0x10, 0x30] := rfl

theorem tokenBytes_ack1 : tokenBytes .ack1 = [0x10, 0x31] := rfl

/-- TX.CTL stamps each byte of its token with the current tick, for every token (R128). -/
theorem exec_txCtl (t : Token) (s : State) :
    exec (.txCtl t) s = .next { s with txs := s.txs ++ (tokenBytes t).map fun b => (s.ticks - 1, b) } :=
  congrArg Host.Outcome.next (sendToken_eq t s)

/-- TX.FRAME stamps each byte of the frame register with the current tick (R129). -/
theorem exec_txFrame (s : State) :
    exec .txFrame s = .next { s with txs := s.txs ++ s.txf.map fun b => (s.ticks - 1, b) } :=
  congrArg Host.Outcome.next (sendFrame_eq s)

/-- Settles O18: TX.CTL on any token, at the bytes of each of the four, and TX.FRAME. -/
theorem transmitAppends : Obligations.TransmitAppends := by
  unfold Obligations.TransmitAppends
  intro s
  refine ⟨?enq, ?eot, ?ack0, ?ack1, exec_txFrame s⟩
  case enq => rw [exec_txCtl, tokenBytes_enq, List.map_singleton]
  case eot => rw [exec_txCtl, tokenBytes_eot, List.map_singleton]
  case ack0 => rw [exec_txCtl, tokenBytes_ack0, List.map_cons, List.map_singleton]
  case ack1 => rw [exec_txCtl, tokenBytes_ack1, List.map_cons, List.map_singleton]

end Sys2Proof.Machine
end

section
/-! The shared operations of the handshake states as equations, one per branch: an attempt of a one-byte wait, the
read of the received CRC, a pause, taking an error, and the outcome fields of `STATUS` as numbers. -/

namespace Sys2Proof.Machine

/-! ### An attempt of a one-byte wait (R121, R122) -/

section
variable {s : State} {code : CtlCode}

theorem pollCtl_expired (htmr : s.tmr = 0) : pollAttempt (readCtl code) s = (.expired, s) := by
  rcases pollCtl_cases s code with ⟨-, hpoll⟩ | ⟨hleft, -⟩ | ⟨hleft, -⟩ | ⟨hleft, -⟩
  · exact hpoll
  all_goals exact absurd htmr hleft

theorem pollCtl_nothing (htmr : s.tmr ≠ 0) (hrxq : s.rxq = []) :
    pollAttempt (readCtl code) s = (.pending, { s with tmr := s.tmr - 1 }) := by
  rcases pollCtl_cases s code with ⟨h0, -⟩ | ⟨-, -, hpoll⟩ | ⟨-, _, hcons, -⟩ | ⟨-, _, _, hcons, -⟩
  · exact absurd h0 htmr
  · exact hpoll
  all_goals simp [hrxq] at hcons

/-- A byte that is there is taken, and the attempt matches when it is the awaited one. -/
theorem pollCtl_byte {b : Byte} {more : List Byte} (htmr : s.tmr ≠ 0) (hrxq : s.rxq = b :: more) :
    pollAttempt (readCtl code) s =
      (if b = ctlByte code then .matched else .pending, { s with tmr := s.tmr - 1, rxq := more }) := by
  rcases pollCtl_cases s code with ⟨h0, -⟩ | ⟨-, hnil, -⟩ | ⟨-, _, hcons, hpoll⟩ | ⟨-, _, _, hcons, hne, hpoll⟩
  · exact absurd h0 htmr
  · simp [hrxq] at hnil
  · obtain ⟨rfl, rfl⟩ := List.cons.inj (hrxq.symm.trans hcons)
    rw [hpoll, if_pos rfl]
  · obtain ⟨rfl, rfl⟩ := List.cons.inj (hrxq.symm.trans hcons)
    rw [hpoll, if_neg hne]

theorem pollCtl_awaited {more : List Byte} (htmr : s.tmr ≠ 0) (hrxq : s.rxq = ctlByte code :: more) :
    pollAttempt (readCtl code) s = (.matched, { s with tmr := s.tmr - 1, rxq := more }) := by
  rw [pollCtl_byte htmr hrxq, if_pos rfl]

theorem pollCtl_other {b : Byte} {more : List Byte} (htmr : s.tmr ≠ 0) (hrxq : s.rxq = b :: more)
    (hb : b ≠ ctlByte code) :
    pollAttempt (readCtl code) s = (.pending, { s with tmr := s.tmr - 1, rxq := more }) := by
  rw [pollCtl_byte htmr hrxq, if_neg hb]

end

/-! ### The read of the received CRC and the pause (R126, R127) -/

section
variable {s : State}

theorem readCrcOnce_two_bytes {b0 b1 : Byte} {more : List Byte} (hrxq : s.rxq = b0 :: b1 :: more) :
    s.readCrcOnce = (.matched, { s with rxq := more, rxcrc := crcFromWire b0 b1 }) := by
  rcases readCrc_cases s with ⟨_, _, _, hcons, hread⟩ | ⟨hshort, -⟩ | ⟨hshort, -⟩
  · rw [hrxq] at hcons
    obtain ⟨rfl, rfl, rfl⟩ : b0 = _ ∧ b1 = _ ∧ more = _ := by simpa using hcons
    exact hread
  all_goals simp [hrxq] at hshort

theorem readCrcOnce_expired (hrxq : s.rxq.length < 2) (htmr : s.tmr = 0) : s.readCrcOnce = (.expired, s) := by
  rcases readCrc_cases s with ⟨_, _, _, hcons, -⟩ | ⟨-, -, hread⟩ | ⟨-, hleft, -⟩
  · simp [hcons] at hrxq
  · exact hread
  · exact absurd htmr hleft

theorem readCrcOnce_idle (hrxq : s.rxq.length < 2) (htmr : s.tmr ≠ 0) :
    s.readCrcOnce = (.pending, { s with tmr := s.tmr - 1 }) := by
  rcases readCrc_cases s with ⟨_, _, _, hcons, -⟩ | ⟨-, h0, -⟩ | ⟨-, -, hread⟩
  · simp [hcons] at hrxq
  · exact absurd h0 htmr
  · exact hread

theorem pauseOnce_over (htmr : s.tmr = 0) : s.pauseOnce = (.matched, s) := by
  rcases pause_cases s with ⟨-, hpause⟩ | ⟨hleft, -⟩
  · exact hpause
  · exact absurd htmr hleft

theorem pauseOnce_left (htmr : s.tmr ≠ 0) : s.pauseOnce = (.pending, { s with tmr := s.tmr - 1 }) := by
  rcases pause_cases s with ⟨h0, -⟩ | ⟨-, hpause⟩
  · exact absurd h0 htmr
  · exact hpause

end

/-- The two wire bytes as a number, the first one low (R42, R66). -/
theorem crcFromWire_eq_ofNat (b0 b1 : Byte) :
    crcFromWire b0 b1 = BitVec.ofNat 16 (b0.toNat + 256 * b1.toNat) := by
  have hdisjoint : b1.toNat <<< 8 + b0.toNat = b1.toNat <<< 8 ||| b0.toNat :=
    Nat.shiftLeft_add_eq_or_of_lt b0.isLt _
  have hlow := b0.isLt
  have hhigh := b1.isLt
  have hfits : b1.toNat <<< 8 < 2 ^ 16 := by rw [Nat.shiftLeft_eq]; omega
  apply BitVec.eq_of_toNat_eq
  calc (crcFromWire b0 b1).toNat
      = b1.toNat <<< 8 ||| b0.toNat := by
        rw [crcFromWire, BitVec.or_comm, BitVec.toNat_or, BitVec.toNat_shiftLeft, BitVec.toNat_setWidth,
          BitVec.toNat_setWidth, Nat.mod_eq_of_lt (a := b1.toNat) (by omega),
          Nat.mod_eq_of_lt (a := b0.toNat) (by omega), Nat.mod_eq_of_lt hfits]
    _ = (BitVec.ofNat 16 (b0.toNat + 256 * b1.toNat)).toNat := by
        rw [← hdisjoint, Nat.shiftLeft_eq, BitVec.toNat_ofNat]
        omega

/-! ### Errors (R222) -/

/-- Taking an error as one update of the state: status word, event, DONE state. -/
theorem raise_eq (s : State) (x : Stage) (k : FatalKind) :
    s.raise x k = { s with
      status := setStageOut x (setErr s.status (fatalCode k)) (fatalOutcome k)
      log := s.log ++ [⟨s.ticks - 1, failEvent x, (fatalCode k).setWidth 16⟩]
      seq := doneState x, phase := .running } := rfl

theorem raise_h1_handshakeTimeout (s : State) :
    s.raise .h1 .handshakeTimeout = { s with
      status := (s.status &&& 0xFE3C) ||| 0x0043, log := s.log ++ [⟨s.ticks - 1, .h1Fail, 1⟩]
      seq := .h1Done, phase := .running } := by
  rw [raise_eq, status_raise_h1_timeout]
  rfl

theorem raise_h1_malformedFrame (s : State) :
    s.raise .h1 .malformedFrame = { s with
      status := (s.status &&& 0xFE3C) ||| 0x00C2, log := s.log ++ [⟨s.ticks - 1, .h1Fail, 3⟩]
      seq := .h1Done, phase := .running } := by
  rw [raise_eq, status_raise_h1_malformed]
  rfl

theorem raise_h1_checksumMismatch (s : State) :
    s.raise .h1 .checksumMismatch = { s with
      status := (s.status &&& 0xFE3C) ||| 0x0082, log := s.log ++ [⟨s.ticks - 1, .h1Fail, 2⟩]
      seq := .h1Done, phase := .running } := by
  rw [raise_eq, status_raise_h1_checksum]
  rfl

/-! ### The outcome fields of `STATUS` as numbers (R32) -/

theorem h1Out_eq_success_iff (st : Word) : h1Out st = outcomeCode .success ↔ st.toNat % 4 = 1 := by
  rw [← BitVec.toNat_inj, h1Out, BitVec.extractLsb'_toNat]
  rfl

theorem h2Out_eq_success_iff (st : Word) : h2Out st = outcomeCode .success ↔ st.toNat / 4 % 4 = 1 := by
  rw [← BitVec.toNat_inj, h2Out, BitVec.extractLsb'_toNat, Nat.shiftRight_eq_div_pow]
  rfl

end Sys2Proof.Machine
end

section
/-! Handshake 1 (R141, R145, R146, R148): the rules of its waits, of the CRC read and of the CRC check. -/

namespace Sys2Proof.Machine

/-- Settles O19: the four branches of an attempt that awaits ENQ, and what the state makes of each answer. -/
theorem h1WaitEnqRule : Obligations.H1WaitEnqRule := by
  unfold Obligations.H1WaitEnqRule
  intro s b more
  simp only [exec, execH1WaitEnq, State.waitEnqOnce]
  refine ⟨fun htmr => ?expired, fun htmr hrxq => ?nothing, fun htmr hrxq => ?enq, fun htmr hrxq hb => ?other⟩
  case expired =>
    rw [pollCtl_expired htmr, ← raise_h1_handshakeTimeout]
  case nothing =>
    rw [pollCtl_nothing htmr hrxq]
    rfl
  case enq =>
    rw [pollCtl_awaited (code := .enq) htmr hrxq]
    rfl
  case other =>
    rw [pollCtl_other (code := .enq) htmr hrxq hb]
    rfl

/-- Settles O23: two bytes make the CRC, and with less than two the state idles until its timer is over. -/
theorem h1ReadCrcRule : Obligations.H1ReadCrcRule := by
  unfold Obligations.H1ReadCrcRule
  intro s b0 b1 more
  simp only [exec, execH1ReadCrc]
  refine ⟨fun hrxq => ?twoBytes, fun hrxq htmr => ?expired, fun hrxq htmr => ?idle⟩
  case twoBytes =>
    rw [readCrcOnce_two_bytes hrxq, crcFromWire_eq_ofNat]
    rfl
  case expired =>
    rw [readCrcOnce_expired hrxq htmr, ← raise_h1_malformedFrame]
  case idle =>
    rw [readCrcOnce_idle hrxq htmr]
    rfl

/-- Settles O24: the fold `XM_DLE_SOH` of the received header, compared with the received CRC. -/
theorem h1VerifyCrcRule : Obligations.H1VerifyCrcRule := by
  unfold Obligations.H1VerifyCrcRule
  intro s c
  have hfold : s.crcFoldOver s.rxbuf .dleSoh = { s with crc := c } := by
    rw [State.crcFoldOver, crcOf_dleSoh]
  simp only [exec, execH1VerifyCrc, hfold, beq_iff_eq]
  constructor
  · intro heq
    rw [if_pos heq]
    rfl
  · intro hne
    rw [if_neg hne, raise_h1_checksumMismatch]

/-- Settles O25: the four branches of an attempt that awaits EOT; a success writes `H1_OUT` between its two events. -/
theorem h1WaitEotRule : Obligations.H1WaitEotRule := by
  unfold Obligations.H1WaitEotRule
  intro s b more
  simp only [exec, execH1WaitEot, State.waitEotOnce]
  refine ⟨fun htmr => ?expired, fun htmr hrxq => ?nothing, fun htmr hrxq => ?eot, fun htmr hrxq hb => ?other⟩
  case expired =>
    rw [pollCtl_expired htmr, ← raise_h1_handshakeTimeout]
  case nothing =>
    rw [pollCtl_nothing htmr hrxq]
    rfl
  case eot =>
    rw [pollCtl_awaited (code := .eot) htmr hrxq]
    simp only [State.logEvent, status_success_h1, List.append_assoc]
    rfl
  case other =>
    rw [pollCtl_other (code := .eot) htmr hrxq hb]
    rfl

end Sys2Proof.Machine
end

section
/-! The states of the same shape in several stages: those that send a bare token (R142, R147, R161, R166, R182), the
pauses (R143, R150, R165) and the DONE states (R149, R167, R189). -/

namespace Sys2Proof.Machine

/-- Settles O20: each state sends its token and logs it. Those that go on to a wait or a pause load its timer, and
`H2_SEND_EOT` records its stage's success. -/
theorem tokenSendingStates : Obligations.TokenSendingStates := by
  unfold Obligations.TokenSendingStates
  intro s
  refine ⟨?h1Ack0, fun hcfg => ?h1Ack1, fun hcfg => ?h1Ack1Pause, ?h2Enq, ?h2Eot, ?xfEnq⟩
  case h1Ack0 =>
    simp only [exec, execH1SendAck0, sendToken_eq, tokenBytes_ack0]
    rfl
  case h1Ack1 =>
    simp only [exec, execH1SendAck1, sendToken_eq, tokenBytes_ack1, State.logEvent_cfg, hcfg,
      Bool.false_eq_true, if_false]
    rfl
  case h1Ack1Pause =>
    simp only [exec, execH1SendAck1, sendToken_eq, tokenBytes_ack1, State.logEvent_cfg, hcfg, if_true]
    rfl
  case h2Enq =>
    simp only [exec, execH2SendEnq, sendToken_eq, tokenBytes_enq]
    rfl
  case h2Eot =>
    simp only [exec, execH2SendEot, sendToken_eq, tokenBytes_eot, State.logEvent, status_success_h2,
      List.append_assoc]
    rfl
  case xfEnq =>
    simp only [exec, execXfSendEnq, sendToken_eq, tokenBytes_enq]
    rfl

/-- Settles O21: a pause that is over goes on, and one that is not waits a tick. -/
theorem pauseStates : Obligations.PauseStates := by
  unfold Obligations.PauseStates
  intro s
  simp only [exec, execH1Ack0Pause, execH1Ack1Pause, execH2Pause]
  constructor
  · intro htmr
    rw [pauseOnce_left htmr]
    exact ⟨rfl, rfl, rfl⟩
  · intro htmr
    rw [pauseOnce_over htmr]
    exact ⟨rfl, rfl, rfl⟩

/-- Settles O26: `H1_DONE` and `H2_DONE` read their stage's outcome field, `XF_DONE` reads nothing. -/
theorem doneStates : Obligations.DoneStates := by
  unfold Obligations.DoneStates
  intro s
  simp only [exec, execH1Done, execH2Done, beq_iff_eq, h1Out_eq_success_iff, h2Out_eq_success_iff]
  refine ⟨fun hok => ?h1Ok, fun hfail => ?h1Fail, fun hok => ?h2Ok, fun hfail => ?h2Fail, rfl⟩
  case h1Ok => exact if_pos hok
  case h1Fail => exact if_neg hfail
  case h2Ok => exact if_pos hok
  case h2Fail => exact if_neg hfail

end Sys2Proof.Machine
end

section
/-! The chunk waits (R123, R162, R164, R183): an attempt that awaits an acknowledgment as equations, one per branch,
and the three states that make it. -/

namespace Sys2Proof.Machine

/-! ### An attempt of a chunk wait (R123) -/

section
variable {s : State} {n : AckNo}

theorem waitAckOnce_expired (htmr : s.tmr = 0) : s.waitAckOnce n = (.expired, s) := by
  rcases pollAck_cases s n with ⟨-, hpoll⟩ | ⟨hleft, -⟩ | ⟨hleft, -⟩ | ⟨hleft, -⟩
  · exact hpoll
  all_goals exact absurd htmr hleft

theorem waitAckOnce_short (htmr : s.tmr ≠ 0) (hrxq : s.rxq.length < 2) :
    s.waitAckOnce n = (.pending, { s with tmr := s.tmr - 1 }) := by
  rcases pollAck_cases s n with ⟨h0, -⟩ | ⟨-, -, hpoll⟩ | ⟨-, _, hcons, -⟩ | ⟨-, _, _, _, hcons, -⟩
  · exact absurd h0 htmr
  · exact hpoll
  all_goals simp [hcons] at hrxq

/-- A chunk that is there is taken, and the attempt matches when it is the awaited pair. -/
theorem waitAckOnce_chunk {a b : Byte} {more : List Byte} (htmr : s.tmr ≠ 0) (hrxq : s.rxq = a :: b :: more) :
    s.waitAckOnce n =
      (if a = bDLE ∧ b = ackDigit n then .matched else .pending, { s with tmr := s.tmr - 1, rxq := more }) := by
  rcases pollAck_cases s n with ⟨h0, -⟩ | ⟨-, hshort, -⟩ | ⟨-, _, hcons, hpoll⟩ | ⟨-, _, _, _, hcons, hne, hpoll⟩
  · exact absurd h0 htmr
  · simp [hrxq] at hshort
  · obtain ⟨rfl, rfl, rfl⟩ : a = _ ∧ b = _ ∧ more = _ := by simpa [hrxq] using hcons
    rw [if_pos ⟨rfl, rfl⟩]
    exact hpoll
  · obtain ⟨rfl, rfl, rfl⟩ : a = _ ∧ b = _ ∧ more = _ := by simpa [hrxq] using hcons
    rw [if_neg hne]
    exact hpoll

theorem waitAckOnce_awaited {more : List Byte} (htmr : s.tmr ≠ 0) (hrxq : s.rxq = bDLE :: ackDigit n :: more) :
    s.waitAckOnce n = (.matched, { s with tmr := s.tmr - 1, rxq := more }) := by
  rw [waitAckOnce_chunk htmr hrxq, if_pos ⟨rfl, rfl⟩]

theorem waitAckOnce_other {a b : Byte} {more : List Byte} (htmr : s.tmr ≠ 0) (hrxq : s.rxq = a :: b :: more)
    (hpair : ¬(a = bDLE ∧ b = ackDigit n)) :
    s.waitAckOnce n = (.pending, { s with tmr := s.tmr - 1, rxq := more }) := by
  rw [waitAckOnce_chunk htmr hrxq, if_neg hpair]

end

/-! ### The timeouts of handshake 2 and of the transfer (R222) -/

theorem raise_h2_handshakeTimeout (s : State) :
    s.raise .h2 .handshakeTimeout = { s with
      status := (s.status &&& 0xFE33) ||| 0x004C, log := s.log ++ [⟨s.ticks - 1, .h2Fail, 1⟩]
      seq := .h2Done, phase := .running } := by
  rw [raise_eq, status_raise_h2_timeout]
  rfl

theorem raise_xf_handshakeTimeout (s : State) :
    s.raise .xf .handshakeTimeout = { s with
      status := (s.status &&& 0xFE0F) ||| 0x0070, log := s.log ++ [⟨s.ticks - 1, .xfFail, 1⟩]
      seq := .xfDone, phase := .running } := by
  rw [raise_eq, status_raise_xf_timeout]
  rfl

/-! ### The three waits (R162, R164, R183) -/

/-- Settles O27: the branches of an attempt that awaits ACK0 or ACK1, and what each state makes of its answer. The
acknowledgment that a state does not await is one of the other chunks. -/
theorem ackWaitRules : Obligations.AckWaitRules := by
  unfold Obligations.AckWaitRules
  intro s a b more
  simp only [exec, execH2WaitAck0, execH2WaitAck1, execXfWaitAck0]
  refine ⟨fun htmr => ?expired, fun htmr hrxq => ?short, fun htmr hrxq => ?ack0, fun htmr hrxq => ?ack1,
    fun htmr hrxq hpair => ?notAck0, fun htmr hrxq hpair => ?notAck1⟩
  case expired =>
    simp only [waitAckOnce_expired htmr, raise_h2_handshakeTimeout, raise_xf_handshakeTimeout, and_self]
  case short =>
    simp only [waitAckOnce_short htmr hrxq]
    exact ⟨rfl, rfl, rfl⟩
  case ack0 =>
    rw [waitAckOnce_awaited (n := .ack0) htmr hrxq]
    exact ⟨rfl, rfl⟩
  case ack1 =>
    rw [waitAckOnce_awaited (n := .ack1) htmr hrxq]
    rfl
  case notAck0 =>
    rw [waitAckOnce_other (n := .ack0) htmr hrxq hpair]
    exact ⟨rfl, rfl⟩
  case notAck1 =>
    rw [waitAckOnce_other (n := .ack1) htmr hrxq hpair]
    rfl

end Sys2Proof.Machine
end

section
/-! The data frame of a line in bytes (R102, R105, R106), `XF_NEXT_LINE` (R181), and the two states that build and send
a line's frame (R184, R185). -/

namespace Sys2Proof.Machine

/-! ### The frame of a line (R102, R105, R106) -/

/-- The two bytes of a CRC as numbers, low byte first (R106). -/
theorem crcBytes_eq_ofNat (c : Word) :
    crcBytes c = [BitVec.ofNat 8 c.toNat, BitVec.ofNat 8 (c.toNat / 256)] := by
  have hhigh : c.extractLsb' 8 8 = BitVec.ofNat 8 (c.toNat / 256) :=
    congrArg (BitVec.ofNat 8) (Nat.shiftRight_eq_div_pow c.toNat 8)
  rw [crcBytes, hhigh]
  rfl

/-- The bytes under a data frame's CRC: the text, one CR LF whatever line end the host gave, DLE and the end mark
(R102, R105). -/
theorem dataBody_append {t e : List Byte} (isLast : Bool) (ht : noTrailingEol t = true)
    (he : ∀ b ∈ e, b = 0x0D ∨ b = 0x0A) :
    dataBody (t ++ e) isLast = t ++ [0x0D, 0x0A, 0x10, if isLast then 0x03 else 0x17] := by
  have hstrip : stripEol (t ++ e) = t :=
    stripEol_append t e ht fun b hb => by simpa [isEol, bCR, bLF] using he b hb
  rw [dataBody, normLine, hstrip]
  cases isLast <;> exact List.append_assoc t _ _

/-- The CRC of a data frame, as a fold over the bytes other than DLE (R93, R103). -/
theorem dataCrc_eq_foldl (line : List Byte) (isLast : Bool) :
    dataCrc line isLast = ((dataBody line isLast).filter fun b => b != 0x10).foldl crcByte 0x0000 :=
  crcOf_dle _

/-- A data frame in its three parts: DLE STX, the bytes under the CRC, the CRC low byte first (R65, R105). -/
theorem dataFrame_eq_ofNat (line : List Byte) (isLast : Bool) :
    dataFrame line isLast = [0x10, 0x02] ++ dataBody line isLast
      ++ [BitVec.ofNat 8 (dataCrc line isLast).toNat, BitVec.ofNat 8 ((dataCrc line isLast).toNat / 256)] := by
  rw [dataFrame, crcBytes_eq_ofNat]
  rfl

/-- `IsLast(li)` compares `li` with the number of lines (R57). -/
theorem isLastLine_iff (s : State) : s.isLastLine = true ↔ s.li.toNat + 1 = s.pay.length := beq_iff_eq

/-! ### The states (R181, R184, R185) -/

/-- `XF_BUILD_FRAME` on a line of `pay`, as one update of the state (R184). -/
theorem exec_xfBuildFrame_of_line {s : State} {line : Line} (hline : s.pay[s.li.toNat]? = some line) :
    exec .xfBuildFrame s = .next { s with
      crc := dataCrc line s.isLastLine, txf := dataFrame line s.isLastLine
      seq := .xfSendFrame, phase := .running } := by
  simp only [exec, execXfBuildFrame, State.payLine, hline]
  rfl

/-- `XF_SEND_FRAME` as one update of the state (R185). -/
theorem exec_xfSendFrame (s : State) :
    exec .xfSendFrame s = .next { s with
      txs := s.txs ++ s.txf.map fun b => (s.now, b), log := s.log ++ [⟨s.now, .xfLineTx, s.li⟩]
      tmr := nLine s.cfg, seq := .xfWaitResp, phase := .running } := by
  simp only [exec, execXfSendFrame, sendFrame_eq]
  rfl

/-- Settles O29: the two tests of R181 in their order; only the first branch writes an outcome and an event. -/
theorem nextLineRule : Obligations.NextLineRule := by
  unfold Obligations.NextLineRule
  intro s
  simp only [exec, execXfNextLine, beq_iff_eq]
  refine ⟨fun hdone => ?done, fun hleft hfirst => ?firstLine, fun hleft hlater => ?laterLine⟩
  case done =>
    rw [if_pos hdone, status_success_xf]
    rfl
  case firstLine =>
    rw [if_neg (Nat.not_le.mpr hleft), if_pos hfirst]
    rfl
  case laterLine =>
    rw [if_neg (Nat.not_le.mpr hleft), if_neg hlater]
    rfl

/-- Settles O30: the built frame is the data frame of line `li`, whose end mark, CRC and bytes the lemmas above give;
the sent one is what `txf` holds. -/
theorem lineFramedAndSent : Obligations.LineFramedAndSent := by
  unfold Obligations.LineFramedAndSent
  refine ⟨?build, exec_xfSendFrame⟩
  case build =>
    intro s t e hline ht he body c
    have hbody : dataBody (t ++ e) s.isLastLine = body := by
      rw [dataBody_append s.isLastLine ht he, if_congr (isLastLine_iff s) rfl rfl]
    have hcrc : dataCrc (t ++ e) s.isLastLine = c := by
      rw [dataCrc_eq_foldl, hbody]
    rw [exec_xfBuildFrame_of_line hline, dataFrame_eq_ofNat, hcrc, hbody]

end Sys2Proof.Machine
end

section
/-! The wait for a line's response (R124, R186 to R188): an attempt as equations, one per branch, and what
`XF_WAIT_RESP` makes of each answer. -/

namespace Sys2Proof.Machine

/-! ### An attempt of the response wait (R124) -/

section
variable {s : State}

theorem waitRespOnce_expired (htmr : s.tmr = 0) : s.waitRespOnce = (.expired, s) := by
  rcases pollResp_cases s with ⟨-, hpoll⟩ | ⟨hleft, -⟩ | ⟨hleft, -⟩ | ⟨hleft, -⟩ | ⟨hleft, -⟩
  · exact hpoll
  all_goals exact absurd htmr hleft

/-- A lone byte may be the first half of a pair, so it stays, unless it is a NAK. -/
theorem waitRespOnce_short (htmr : s.tmr ≠ 0) (hrxq : s.rxq = [] ∨ ∃ a, s.rxq = [a] ∧ a ≠ bNAK) :
    s.waitRespOnce = (.pending, { s with tmr := s.tmr - 1 }) := by
  rcases pollResp_cases s with ⟨h0, -⟩ | ⟨-, -, hpoll⟩ | ⟨-, more, hnak, -⟩ | ⟨-, _, _, hack, -⟩ |
    ⟨-, _, _, _, hnoise, -⟩
  · exact absurd h0 htmr
  · exact hpoll
  · rcases hrxq with hnil | ⟨a, hlone, ha⟩
    · simp [hnil] at hnak
    · exact absurd (List.cons.inj (hlone.symm.trans hnak)).1 ha
  · simp [hack] at hrxq
  · simp [hnoise] at hrxq

/-- A NAK is taken alone, whatever stands behind it. -/
theorem waitRespOnce_nak {more : List Byte} (htmr : s.tmr ≠ 0) (hrxq : s.rxq = bNAK :: more) :
    s.waitRespOnce = (.naked, { s with tmr := s.tmr - 1, rxq := more }) := by
  rcases pollResp_cases s with ⟨h0, -⟩ | ⟨-, hshort, -⟩ | ⟨-, _, hnak, hpoll⟩ | ⟨-, _, _, hack, -⟩ |
    ⟨-, _, _, _, hnoise, hne, -⟩
  · exact absurd h0 htmr
  · rcases hshort with hnil | ⟨a, hlone, ha⟩
    · simp [hrxq] at hnil
    · exact absurd (List.cons.inj (hlone.symm.trans hrxq)).1 ha
  · obtain ⟨-, rfl⟩ := List.cons.inj (hrxq.symm.trans hnak)
    exact hpoll
  · simp [hrxq, bNAK, bDLE] at hack
  · exact absurd (List.cons.inj (hnoise.symm.trans hrxq)).1 hne

/-- A chunk that does not begin with a NAK is taken, and the attempt matches when it is either acknowledgment. -/
theorem waitRespOnce_chunk {a b : Byte} {more : List Byte} (htmr : s.tmr ≠ 0) (hrxq : s.rxq = a :: b :: more)
    (ha : a ≠ bNAK) :
    s.waitRespOnce = (if a = bDLE ∧ (b = 0x30 ∨ b = 0x31) then .matched else .pending,
      { s with tmr := s.tmr - 1, rxq := more }) := by
  rcases pollResp_cases s with ⟨h0, -⟩ | ⟨-, hshort, -⟩ | ⟨-, _, hnak, -⟩ | ⟨-, _, _, hack, hdigit, hpoll⟩ |
    ⟨-, _, _, _, hnoise, -, hpair, hpoll⟩
  · exact absurd h0 htmr
  · simp [hrxq] at hshort
  · exact absurd (List.cons.inj (hrxq.symm.trans hnak)).1 ha
  · obtain ⟨rfl, rfl, rfl⟩ : a = _ ∧ b = _ ∧ more = _ := by simpa [hrxq] using hack
    rw [if_pos ⟨rfl, hdigit⟩]
    exact hpoll
  · obtain ⟨rfl, rfl, rfl⟩ : a = _ ∧ b = _ ∧ more = _ := by simpa [hrxq] using hnoise
    rw [if_neg hpair]
    exact hpoll

theorem waitRespOnce_ack {b : Byte} {more : List Byte} (htmr : s.tmr ≠ 0) (hrxq : s.rxq = bDLE :: b :: more)
    (hdigit : b = 0x30 ∨ b = 0x31) :
    s.waitRespOnce = (.matched, { s with tmr := s.tmr - 1, rxq := more }) := by
  rw [waitRespOnce_chunk htmr hrxq (by decide), if_pos ⟨rfl, hdigit⟩]

theorem waitRespOnce_noise {a b : Byte} {more : List Byte} (htmr : s.tmr ≠ 0) (hrxq : s.rxq = a :: b :: more)
    (ha : a ≠ bNAK) (hpair : ¬(a = bDLE ∧ (b = 0x30 ∨ b = 0x31))) :
    s.waitRespOnce = (.pending, { s with tmr := s.tmr - 1, rxq := more }) := by
  rw [waitRespOnce_chunk htmr hrxq ha, if_neg hpair]

end

/-! ### The branches of `XF_WAIT_RESP` (R187, R188) -/

/-- Skipping a line as one update of the state (R187). -/
theorem lineTimeout_eq (s : State) :
    s.lineTimeout = { s with
      status := (s.status &&& 0xFE3F) ||| 0x0100, skipped := s.skipped + 1
      log := s.log ++ [⟨s.ticks - 1, .xfLineTimeout, s.li⟩], li := s.li + 1
      seq := .xfNextLine, phase := .running } := by
  rw [← status_lineTimeout]
  rfl

/-- Sending the frame again as one update of the state: only the parameter decides about the window (R188). -/
theorem retransmit_eq (s : State) :
    s.retransmit = { s with
      log := s.log ++ [⟨s.ticks - 1, .xfLineNak, s.li⟩], txs := s.txs ++ s.txf.map fun b => (s.ticks - 1, b)
      tmr := if s.cfg.nakRestartsWindow then nLine s.cfg else s.tmr, phase := .waiting } := by
  cases hcfg : s.cfg.nakRestartsWindow <;>
    simp only [State.retransmit, State.sendFrame_cfg, State.logEvent_cfg, hcfg] <;> rfl

/-- Settles O31: the branches of an attempt that awaits a line's response, and what the state makes of each answer. The
bounds on the counters are not needed: the state counts up modulo 2^16, and so does the statement. -/
theorem lineResponseRules : Obligations.LineResponseRules := by
  unfold Obligations.LineResponseRules
  intro s a b more
  simp only [exec, execXfWaitResp]
  refine ⟨fun htmr _ _ => ?expired, fun htmr hrxq => ?nak, fun htmr _ hrxq hdigit => ?ack,
    fun htmr hrxq ha hpair => ?noise, fun htmr hrxq => ?short⟩
  case expired =>
    rw [waitRespOnce_expired htmr, ← lineTimeout_eq]
  case nak =>
    rw [waitRespOnce_nak htmr hrxq]
    simp only [retransmit_eq]
    rfl
  case ack =>
    rw [waitRespOnce_ack htmr hrxq hdigit]
    rfl
  case noise =>
    rw [waitRespOnce_noise htmr hrxq ha hpair]
    rfl
  case short =>
    rw [waitRespOnce_short htmr (hrxq.imp_right fun hlone => ⟨a, hlone⟩)]
    rfl

end Sys2Proof.Machine
end

section
/-! The two ends of the driver cycle (R201, R203). -/

namespace Sys2Proof.Machine

/-- `CYCLE_END` as one update of the state (R203): the status is logged and left as it is, and the next cycle begins
in the same tick. -/
theorem exec_cycleEnd (s : State) :
    exec .cycleEnd s = .next { s with
      log := s.log ++ [⟨s.ticks - 1, .cycleEnd, s.status⟩], seq := .cycleStart, phase := .running } := rfl

/-- Settles O32: the bounds of R56 make the payload source legal, so `CYCLE_START` copies it and clears the rest;
`CYCLE_END` depends on nothing. -/
theorem cycleBoundary : Obligations.CycleBoundary := by
  unfold Obligations.CycleBoundary
  constructor
  · intro s hlines hline
    have hlegal : payloadLegal s.cfg s.src = true := (payloadLegal_iff _ _).mpr ⟨hlines, hline⟩
    exact exec_cycleStart_of_payloadLegal hlegal
  · exact exec_cycleEnd

end Sys2Proof.Machine
end

section
/-! Decoding what was encoded (R60 to R65, R71, R72): the operands of unit operations, the two frame splitters, and
both directions between the bytes and the instructions. -/

namespace Sys2Proof.Machine

/-! ### Operands of unit operations (R72; log 4) -/

@[simp] theorem takeBytes_putBytes (bytes rest : List Byte) :
    takeBytes (putBytes bytes ++ rest) = some (bytes, rest) := by
  induction bytes with
  | nil => cases rest <;> rfl
  | cons b bytes ih => simp [putBytes, takeBytes, ih]

@[simp] theorem takeXm_xmByte (xm : Xm) (rest : List Byte) : takeXm (xmByte xm :: rest) = some (xm, rest) := by
  cases xm <;> rfl

@[simp] theorem takeBool_boolByte (v : Bool) (rest : List Byte) : takeBool (boolByte v :: rest) = some (v, rest) := by
  cases v <;> rfl

@[simp] theorem takeCtl_ctlCodeByte (c : CtlCode) (rest : List Byte) :
    takeCtl (ctlCodeByte c :: rest) = some (c, rest) := by
  cases c <;> rfl

@[simp] theorem takeAck_ackNoByte (n : AckNo) (rest : List Byte) :
    takeAck (ackNoByte n :: rest) = some (n, rest) := by
  cases n <;> rfl

@[simp] theorem takeToken_tokenByte (t : Token) (rest : List Byte) :
    takeToken (tokenByte t :: rest) = some (t, rest) := by
  cases t <;> rfl

@[simp] theorem takeByte_cons (b : Byte) (rest : List Byte) : takeByte (b :: rest) = some (b, rest) := rfl

@[simp] theorem withOperand_some {α : Type} (f : α → Instr) (a : α) (rest : List Byte) :
    withOperand f (some (a, rest)) = .ok (f a) rest := rfl

@[simp] theorem withOperands_some {α β : Type} (f : α → β → Instr) (second : List Byte → Option (β × List Byte))
    (a : α) (rest : List Byte) : withOperands f second (some (a, rest)) = withOperand (f a) (second rest) := rfl

/-! ### A header frame in bytes (R64, R67) -/

/-- The first end mark behind a text without one is the one that was put there: a mark cannot begin in the text and
end behind it. -/
theorem splitHeader_append {ident : List Byte} (more : List Byte) (h : noHeaderEnd ident = true) :
    splitHeader (ident ++ bDLE :: bETX :: more) = some (ident, more) := by
  induction ident with
  | nil => rfl
  | cons a ident ih =>
    cases ident with
    | nil => simp [splitHeader, bDLE, bETX]
    | cons b ident =>
      simp only [noHeaderEnd, Bool.and_eq_true, Bool.not_eq_true'] at h
      obtain ⟨hab, htail⟩ := h
      have hno : (a == bDLE && b == bETX) = false := hab
      simp only [List.cons_append] at ih ⊢
      simp [splitHeader, hno, ih htail]

/-- What is split off holds no end mark, and the mark and the rest stand behind it. -/
theorem eq_append_of_splitHeader {bytes ident more : List Byte} (h : splitHeader bytes = some (ident, more)) :
    noHeaderEnd ident = true ∧ bytes = ident ++ bDLE :: bETX :: more := by
  induction bytes generalizing ident with
  | nil => simp [splitHeader] at h
  | cons a tail ih =>
    cases tail with
    | nil => simp [splitHeader] at h
    | cons b rest =>
      rw [splitHeader] at h
      split at h
      case isTrue hmark =>
        obtain ⟨rfl, rfl⟩ : a = bDLE ∧ b = bETX := by simpa using hmark
        cases h
        exact ⟨rfl, rfl⟩
      case isFalse hmark =>
        obtain ⟨⟨text, more'⟩, hsplit, heq⟩ := Option.map_eq_some_iff.mp h
        cases heq
        obtain ⟨hno, htail⟩ := ih hsplit
        refine ⟨?_, by rw [htail, List.cons_append]⟩
        cases text with
        | nil => rfl
        | cons c text =>
          obtain ⟨rfl, -⟩ := List.cons.inj htail
          have hab : (a == 0x10 && b == 0x03) = false := Bool.eq_false_iff.mpr hmark
          rw [noHeaderEnd, hab, hno]
          rfl

/-- A header frame in its parts (R64). -/
theorem headerFrame_eq (ident : List Byte) :
    headerFrame ident = bDLE :: bSOH :: (ident ++ bDLE :: bETX :: crcBytes (headerCrc ident)) := by
  simp [headerFrame, headerBody]

theorem crcBytes_pair (c : Word) : crcBytes c = [c.extractLsb' 0 8, c.extractLsb' 8 8] := rfl

theorem decodeHf_headerFrame {ident : List Byte} (rest : List Byte) (h : noHeaderEnd ident = true) :
    decodeHf (headerFrame ident ++ rest) = .ok (.hf ident) rest := by
  have hsplit := splitHeader_append (crcBytes (headerCrc ident) ++ rest) h
  simp only [headerFrame_eq, List.cons_append, List.append_assoc, crcBytes_pair, List.nil_append] at hsplit ⊢
  simp [decodeHf, hsplit, crcBytes_pair]

/-- Only a header frame with its CRC decodes to a header (R64, R67). -/
theorem eq_headerFrame_of_decodeHf {bytes rest : List Byte} {i : Instr} (h : decodeHf bytes = .ok i rest) :
    ∃ ident, i = .hf ident ∧ noHeaderEnd ident = true ∧ bytes = headerFrame ident ++ rest := by
  unfold decodeHf at h
  split at h
  case h_2 => cases h
  case h_1 a b more =>
    split at h
    case isFalse => cases h
    case isTrue hprefix =>
      obtain ⟨rfl, rfl⟩ : a = bDLE ∧ b = bSOH := by simpa using hprefix
      split at h
      case h_1 ident lo hi tail hsplit =>
        obtain ⟨hno, rfl⟩ := eq_append_of_splitHeader hsplit
        split at h
        case isFalse => cases h
        case isTrue hcrc =>
          cases h
          refine ⟨ident, rfl, hno, ?_⟩
          rw [headerFrame_eq, ← eq_of_beq hcrc]
          simp
      all_goals cases h

/-! ### A data frame in bytes (R65) -/

/-- The end mark of a data frame, CR and LF included (R65, R101). -/
def dataMark (isLast : Bool) : List Byte := [bCR, bLF, bDLE, if isLast then bETX else bETB]

/-- A frame's end mark stays one whatever follows it. -/
theorem atFrameEnd_append {bytes : List Byte} (more : List Byte) (h : atFrameEnd bytes = true) :
    atFrameEnd (bytes ++ more) = true := by
  unfold atFrameEnd at h
  split at h
  · exact h
  · cases h

/-- No end mark begins in the text and ends in the mark behind it: the bytes CR, LF and DLE of a mark differ. -/
theorem atFrameEnd_append_dataMark {text : List Byte} (isLast : Bool) (more : List Byte) (hne : text ≠ [])
    (h : atFrameEnd text = false) : atFrameEnd (text ++ (dataMark isLast ++ more)) = false := by
  match text, hne with
  | [a], _ => simp [dataMark, atFrameEnd, bCR, bLF]
  | [a, b], _ => simp [dataMark, atFrameEnd, bCR, bLF]
  | [a, b, c], _ => simp [dataMark, atFrameEnd, bCR]
  | _ :: _ :: _ :: _ :: _, _ => exact h

/-- The first end mark behind a text without one is the one that was put there. -/
theorem splitData_append {text : List Byte} (isLast : Bool) (more : List Byte) (h : noFrameEnd text = true) :
    splitData (text ++ (dataMark isLast ++ more)) = some (text, isLast, more) := by
  induction text with
  | nil => cases isLast <;> rfl
  | cons a text ih =>
    simp only [noFrameEnd, Bool.and_eq_true, Bool.not_eq_true'] at h
    obtain ⟨hhere, htail⟩ := h
    have hno := atFrameEnd_append_dataMark isLast more (List.cons_ne_nil a text) hhere
    simp only [List.cons_append] at hno ⊢
    simp [splitData, hno, ih htail]

/-- What is split off holds no end mark, and the mark and the rest stand behind it. -/
theorem eq_append_of_splitData {bytes text more : List Byte} {isLast : Bool}
    (h : splitData bytes = some (text, isLast, more)) :
    noFrameEnd text = true ∧ bytes = text ++ (dataMark isLast ++ more) := by
  induction bytes generalizing text with
  | nil => simp [splitData] at h
  | cons a rest ih =>
    rw [splitData] at h
    split at h
    case isTrue hmark =>
      obtain ⟨c, d, tail, rfl⟩ : ∃ c d tail, rest = c :: d :: tail := by
        rcases rest with _ | ⟨c, _ | ⟨d, tail⟩⟩
        · cases hmark
        · cases hmark
        · exact ⟨c, d, tail, rfl⟩
      obtain ⟨e, tail, rfl⟩ : ∃ e tail', tail = e :: tail' := by
        rcases tail with _ | ⟨e, tail⟩
        · cases hmark
        · exact ⟨e, tail, rfl⟩
      obtain ⟨⟨⟨rfl, rfl⟩, rfl⟩, he⟩ : ((a = bCR ∧ c = bLF) ∧ d = bDLE) ∧ (e = bETX ∨ e = bETB) := by
        simpa [atFrameEnd, bCR, bLF, bDLE, bETX, bETB] using hmark
      cases h
      refine ⟨rfl, ?_⟩
      rcases he with rfl | rfl <;> rfl
    case isFalse hmark =>
      obtain ⟨⟨text', last', more'⟩, hsplit, heq⟩ := Option.map_eq_some_iff.mp h
      cases heq
      obtain ⟨hno, htail⟩ := ih hsplit
      refine ⟨?_, by rw [htail, List.cons_append]⟩
      have hhere : atFrameEnd (a :: text') = false := by
        by_contra hmark'
        refine hmark ?_
        rw [htail, ← List.cons_append]
        exact atFrameEnd_append _ (by simpa using hmark')
      rw [noFrameEnd, hhere, hno]
      rfl

/-- The frame of a text that needs no normalising, in its parts (R65, R105). -/
theorem dataFrame_of_text {text : List Byte} (isLast : Bool) (h : noTrailingEol text = true) :
    dataFrame text isLast = bDLE :: bSTX :: (text ++ (dataMark isLast ++ crcBytes (dataCrc text isLast))) := by
  have hbody : dataBody text isLast = text ++ dataMark isLast := by
    have happend := dataBody_append (e := []) isLast h (by simp)
    rwa [List.append_nil] at happend
  simp [dataFrame, hbody]

/-- A data frame as an instruction: the end mark says which of the two rows it is (R65). -/
def dataInstr (text : List Byte) (isLast : Bool) : Instr := if isLast then .dfEtx text else .dfEtb text

theorem encode_dataInstr (text : List Byte) (isLast : Bool) :
    encode (dataInstr text isLast) = dataFrame text isLast := by
  cases isLast <;> rfl

theorem wellFormed_dataInstr (text : List Byte) (isLast : Bool) :
    wellFormed (dataInstr text isLast) = lineTextOk text := by
  cases isLast <;> rfl

theorem format_dataInstr (text : List Byte) (isLast : Bool) : (dataInstr text isLast).format = .df := by
  cases isLast <;> rfl

theorem lineTextOk_iff (text : List Byte) :
    lineTextOk text = true ↔ noTrailingEol text = true ∧ noFrameEnd text = true := by
  simp [lineTextOk]

theorem decodeDf_dataFrame {text : List Byte} (isLast : Bool) (rest : List Byte) (h : lineTextOk text = true) :
    decodeDf (dataFrame text isLast ++ rest) = .ok (dataInstr text isLast) rest := by
  obtain ⟨htext, hno⟩ := (lineTextOk_iff text).mp h
  have hsplit := splitData_append isLast (crcBytes (dataCrc text isLast) ++ rest) hno
  simp only [dataFrame_of_text isLast htext, List.cons_append, List.append_assoc, crcBytes_pair,
    List.nil_append] at hsplit ⊢
  simp [decodeDf, hsplit, htext, crcBytes_pair, dataInstr]

/-- Only a data frame with its CRC decodes to a line (R65). -/
theorem eq_dataFrame_of_decodeDf {bytes rest : List Byte} {i : Instr} (h : decodeDf bytes = .ok i rest) :
    ∃ text isLast, i = dataInstr text isLast ∧ lineTextOk text = true ∧ bytes = dataFrame text isLast ++ rest := by
  unfold decodeDf at h
  split at h
  case h_2 => cases h
  case h_1 a b more =>
    split at h
    case isFalse => cases h
    case isTrue hprefix =>
      obtain ⟨rfl, rfl⟩ : a = bDLE ∧ b = bSTX := by simpa using hprefix
      split at h
      case h_1 text isLast lo hi tail hsplit =>
        obtain ⟨hno, rfl⟩ := eq_append_of_splitData hsplit
        split at h
        case isFalse => cases h
        case isTrue htext =>
          split at h
          case isFalse => cases h
          case isTrue hcrc =>
            cases h
            refine ⟨text, isLast, rfl, (lineTextOk_iff text).mpr ⟨htext, hno⟩, ?_⟩
            rw [dataFrame_of_text isLast htext, ← eq_of_beq hcrc]
            simp
      all_goals cases h

/-! ### Sequencer codes (R71) -/

/-- The byte of a state's code decodes to the state's rule, in any company (R71, R73). -/
theorem decodeSequencer_byte (q : Seq) (rest : List Byte) : decodeSequencer (q.byte :: rest) = .ok q.instr rest := by
  simp [decodeSequencer]

theorem format_seq_instr (q : Seq) : q.instr.format = .sequencer := by cases q <;> rfl

theorem wellFormed_seq_instr (q : Seq) : wellFormed q.instr = true := by cases q <;> rfl

theorem exists_seq_of_decodeSequencer {bytes rest : List Byte} {i : Instr}
    (h : decodeSequencer bytes = .ok i rest) : ∃ q : Seq, i = q.instr := by
  unfold decodeSequencer at h
  split at h
  · cases h
  · split at h
    · cases h
      exact ⟨_, rfl⟩
    · cases h

/-! ### Unit operations (R72) -/

/-- The operands of each unit operation are read back from behind its code (R72; log 4). -/
theorem decodeUnit_encode {i : Instr} (rest : List Byte) (h : i.format = .unit) :
    decodeUnit (encode i ++ rest) = .ok i rest := by
  cases i with
  | crcClr | frmCrc | rcgSuffix | rcgResp | waitEnq | waitEot | waitResp | rdBody | rdCrc | pause | txFrame => rfl
  | crcStep | rcgByte | rcgAck | waitAck | txCtl => simp [encode, decodeUnit]
  | crcFold | frmHs | frmDl | frmNorm | frmDf => simp [encode, decodeUnit]
  | _ => cases h

/-- A unit operation carries no check of its own. -/
theorem wellFormed_of_unit {i : Instr} (h : i.format = .unit) : wellFormed i = true := by
  cases i with
  | soh | stx | etx | eot | enq | dle | nak | etb | ack0 | ack1 | dleSoh | dleStx | dleEtx | dleEtb => rfl
  | hf | dfEtb | dfEtx => cases h
  | _ => rfl

/-- An instruction with an operand is one of its family. -/
theorem exists_of_withOperand {α : Type} {f : α → Instr} {operand : Option (α × List Byte)} {i : Instr}
    {rest : List Byte} (h : withOperand f operand = .ok i rest) : ∃ a, i = f a := by
  rcases operand with _ | ⟨a, more⟩
  · cases h
  · cases h
    exact ⟨a, rfl⟩

theorem exists_of_withOperands {α β : Type} {f : α → β → Instr} {second : List Byte → Option (β × List Byte)}
    {operand : Option (α × List Byte)} {i : Instr} {rest : List Byte}
    (h : withOperands f second operand = .ok i rest) : ∃ a b, i = f a b := by
  rcases operand with _ | ⟨a, more⟩
  · cases h
  · exact ⟨a, exists_of_withOperand h⟩

/-- What decodes as a unit operation is one (R72). -/
theorem format_of_decodeUnit {bytes rest : List Byte} {i : Instr} (h : decodeUnit bytes = .ok i rest) :
    i.format = .unit := by
  unfold decodeUnit at h
  split at h
  · cases h
  · split at h
    case h_2 | h_4 | h_6 | h_15 | h_20 =>
      obtain ⟨a, rfl⟩ := exists_of_withOperand h
      rfl
    case h_3 | h_5 | h_8 | h_9 =>
      obtain ⟨a, b, rfl⟩ := exists_of_withOperands h
      rfl
    case h_11 =>
      split at h
      · obtain ⟨a, b, rfl⟩ := exists_of_withOperands h
        rfl
      · cases h
    all_goals cases h
    all_goals rfl

/-! ### Control codes and pairs (R60, R62) -/

theorem decodeC1_encode {i : Instr} (rest : List Byte) (h : i.format = .c1) :
    decodeC1 (encode i ++ rest) = .ok i rest := by
  cases i with
  | soh | stx | etx | eot | enq | dle | nak | etb => rfl
  | _ => cases h

theorem decodeC2_encode {i : Instr} (rest : List Byte) (h : i.format = .c2) :
    decodeC2 (encode i ++ rest) = .ok i rest := by
  cases i with
  | ack0 | ack1 | dleSoh | dleStx | dleEtx | dleEtb => rfl
  | _ => cases h

/-- Only a control code's byte decodes to it (R60). -/
theorem eq_encode_of_decodeC1 {bytes rest : List Byte} {i : Instr} (h : decodeC1 bytes = .ok i rest) :
    i.format = .c1 ∧ bytes = encode i ++ rest := by
  unfold decodeC1 at h
  split at h
  · cases h
  · repeat' split at h
    all_goals cases h
    all_goals exact ⟨rfl, by simp_all [encode]⟩

/-- Only a pair's two bytes decode to it (R62, R69 b). -/
theorem eq_encode_of_decodeC2 {bytes rest : List Byte} {i : Instr} (h : decodeC2 bytes = .ok i rest) :
    i.format = .c2 ∧ bytes = encode i ++ rest := by
  unfold decodeC2 at h
  repeat' split at h
  all_goals cases h
  all_goals exact ⟨rfl, by simp_all [encode]⟩

/-- The codes and pairs carry no check of their own. -/
theorem wellFormed_of_token {i : Instr} (h : i.format = .c1 ∨ i.format = .c2) : wellFormed i = true := by
  cases i with
  | hf | dfEtb | dfEtx => simp [Instr.format] at h
  | _ => rfl

/-! ### The two directions -/

theorem decodeSequencer_encode {i : Instr} (rest : List Byte) (h : i.format = .sequencer) :
    decodeSequencer (encode i ++ rest) = .ok i rest := by
  cases i with
  | cycleStart | h1WaitEnq | h1SendAck0 | h1Ack0Pause | h1ReadBody | h1ReadCrc | h1VerifyCrc | h1SendAck1
  | h1WaitEot | h1Done | h2SendEnq | h2WaitAck0 | h2SendId | h2WaitAck1 | h2Pause | h2SendEot | h2Done
  | xfNextLine | xfSendEnq | xfWaitAck0 | xfBuildFrame | xfSendFrame | xfWaitResp | xfDone | cycleEnd
  | h1Ack1Pause => exact decodeSequencer_byte _ rest
  | _ => cases h

theorem decodeHf_encode {i : Instr} (rest : List Byte) (h : i.format = .hf) (hwf : wellFormed i = true) :
    decodeHf (encode i ++ rest) = .ok i rest := by
  cases i with
  | hf ident => exact decodeHf_headerFrame rest hwf
  | _ => cases h

theorem decodeDf_encode {i : Instr} (rest : List Byte) (h : i.format = .df) (hwf : wellFormed i = true) :
    decodeDf (encode i ++ rest) = .ok i rest := by
  cases i with
  | dfEtb text => exact decodeDf_dataFrame false rest hwf
  | dfEtx text => exact decodeDf_dataFrame true rest hwf
  | _ => cases h

/-- Settles O40, format by format; only the frames need the instruction to be well formed. -/
theorem decodeOfEncode : Obligations.DecodeOfEncode := by
  unfold Obligations.DecodeOfEncode
  intro i rest hwf
  cases hformat : i.format with
  | c1 => exact decodeC1_encode rest hformat
  | c2 => exact decodeC2_encode rest hformat
  | hf => exact decodeHf_encode rest hformat hwf
  | df => exact decodeDf_encode rest hformat hwf
  | sequencer => exact decodeSequencer_encode rest hformat
  | unit => exact decodeUnit_encode rest hformat

/-- Settles O41, format by format: each decoder's inversion says what the bytes were, where the wire has only one form
of them. -/
theorem encodeOfDecode : Obligations.EncodeOfDecode := by
  unfold Obligations.EncodeOfDecode
  intro f bytes rest i h
  cases f with
  | c1 =>
    obtain ⟨hformat, rfl⟩ := eq_encode_of_decodeC1 h
    exact ⟨wellFormed_of_token (.inl hformat), hformat, fun _ _ => rfl⟩
  | c2 =>
    obtain ⟨hformat, rfl⟩ := eq_encode_of_decodeC2 h
    exact ⟨wellFormed_of_token (.inr hformat), hformat, fun _ _ => rfl⟩
  | hf =>
    obtain ⟨ident, rfl, hno, rfl⟩ := eq_headerFrame_of_decodeHf h
    exact ⟨hno, rfl, fun _ _ => rfl⟩
  | df =>
    obtain ⟨text, isLast, rfl, hok, rfl⟩ := eq_dataFrame_of_decodeDf h
    refine ⟨?_, format_dataInstr text isLast, fun _ _ => ?_⟩
    · rw [wellFormed_dataInstr, hok]
    · rw [encode_dataInstr]
  | sequencer =>
    obtain ⟨q, rfl⟩ := exists_seq_of_decodeSequencer h
    exact ⟨wellFormed_seq_instr q, format_seq_instr q, fun hne => absurd rfl hne⟩
  | unit =>
    have hformat := format_of_decodeUnit h
    exact ⟨wellFormed_of_unit hformat, hformat, fun _ hne => absurd rfl hne⟩

end Sys2Proof.Machine
end

section
/-! Words of the encoding tables, decoded (R60 to R65, R71, R72). -/

namespace Sys2Proof.Machine

/-- Settles O39: codes by the arms of the tables, the two kinds of frame by splitting them and folding their CRC. -/
theorem wordsDecodeToTheirInstructions : Obligations.WordsDecodeToTheirInstructions := by
  unfold Obligations.WordsDecodeToTheirInstructions
  have header : decode .hf [0x10, 0x01, 0x41, 0x10, 0x03, 0xDD, 0xEA] = .ok (.hf [0x41]) [] := by decide +kernel
  have line : decode .df [0x10, 0x02, 0x41, 0x31, 0x42, 0x32, 0x0D, 0x0A, 0x10, 0x17, 0xF4, 0xFF]
      = .ok (.dfEtb [0x41, 0x31, 0x42, 0x32]) [] := by decide +kernel
  have lastLine : decode .df [0x10, 0x02, 0x0D, 0x0A, 0x10, 0x03, 0xD7, 0x62] = .ok (.dfEtx []) [] := by
    decide +kernel
  exact ⟨rfl, rfl, rfl, rfl, rfl, rfl, header, line, lastLine, rfl, rfl, rfl, rfl, rfl, rfl, rfl, rfl, rfl⟩

end Sys2Proof.Machine
end

section
/-! The step of the engine's own run: an action of the environment, or a branch of a state's rule (R30, R31), and the
package that makes an invariant of every step from those two. -/

namespace Sys2Proof.Machine

variable {s t : State}

/-- The code of `seq` is fetched when nothing is put before the machine (R28). -/
theorem fetch_of_no_port (hport : s.port = none) : s.fetch = ⟨.sequencer, [s.seq.byte]⟩ := by
  simp [State.fetch, hport]

/-- The fetched bytes are the decoded instruction (R31). -/
theorem resolve_of_decode {w : PortWord} {i : Instr} {rest : List Byte} (h : decode w.format w.bytes = .ok i rest) :
    resolve w = some i := by
  simp [resolve, h]

theorem runFetched_of_decode {w : PortWord} {i : Instr} {rest : List Byte}
    (h : decode w.format w.bytes = .ok i rest) : runFetched w s = exec i s := by
  simp [runFetched, resolve_of_decode h]

theorem decode_fetch_of_no_port (hport : s.port = none) :
    decode s.fetch.format s.fetch.bytes = .ok s.seq.instr [] := by
  rw [fetch_of_no_port hport]
  exact decodeSequencer_byte s.seq []

theorem idling_eq_false_of_running (hphase : s.phase = .running) : s.idling = false := by
  simp [State.idling, hphase]

/-- Inside a tick, with nothing put before the machine, a step runs the rule of `seq` (R31). -/
theorem step_running (hlegal : legalParams s.cfg = true) (hport : s.port = none) (hphase : s.phase = .running) :
    step s = exec s.seq.instr s := by
  rw [step_fetching hlegal (idling_eq_false_of_running hphase), fetched_of_no_port hport,
    runFetched_of_decode (decode_fetch_of_no_port hport)]

/-- Between ticks, with nothing put before the machine, a step is the environment's (R30). -/
theorem step_waiting (hlegal : legalParams s.cfg = true) (hport : s.port = none) (hphase : s.phase = .waiting) :
    step s = .next s.environment :=
  step_idling hlegal ((idling_iff s).mpr ⟨hport, hphase⟩)

/-- A step that answers next had legal parameters (I2, I7). -/
theorem legalParams_of_step (h : step s = .next t) : legalParams s.cfg = true := by
  by_contra hillegal
  rw [step_illegal (Bool.eq_false_iff.mpr hillegal)] at h
  cases h

/-- How a step of the engine's own run can answer next (R30, R31). -/
theorem step_cases (hu : s.undisturbed) (h : step s = .next t) :
    (s.phase = .waiting ∧ t = s.environment) ∨ (s.phase = .running ∧ Transition s t) := by
  have hlegal := legalParams_of_step h
  cases hphase : s.phase with
  | waiting =>
    rw [step_waiting hlegal hu hphase] at h
    cases h
    exact .inl ⟨rfl, rfl⟩
  | running =>
    rw [step_running hlegal hu hphase] at h
    exact .inr ⟨rfl, transition_of_exec h⟩

/-- No branch of a rule puts an instruction before the machine (log 5). -/
theorem transition_port (tr : Transition s t) : t.port = s.port := by cases tr <;> rfl

/-- No branch of a rule writes a parameter (R205). -/
theorem transition_cfg (tr : Transition s t) : t.cfg = s.cfg := by cases tr <;> rfl

/-- What the environment's actions leave of the state: all but the fields it holds itself, or the registers' reset
values (R30, R37, R49). -/
theorem environment_eq (s : State) :
    (∃ rxq src arr ticks inputs phase, s.environment =
      { s with rxq := rxq, src := src, arr := arr, ticks := ticks, inputs := inputs, phase := phase }) ∨
    (∃ inputs, s.environment = { s with inputs := inputs }.rst) := by
  rcases environment_cases s with ⟨rest, -, h⟩ | ⟨bytes, rest, -, h⟩ | ⟨rest, -, h⟩ | ⟨lines, rest, -, h⟩
  · exact .inl ⟨_, _, _, _, _, _, h⟩
  · exact .inl ⟨_, _, _, _, _, _, h⟩
  · exact .inr ⟨rest, h⟩
  · exact .inl ⟨_, _, _, _, _, _, h⟩

theorem environment_port (s : State) : s.environment.port = s.port := by
  rcases environment_eq s with ⟨_, _, _, _, _, _, h⟩ | ⟨_, h⟩
  all_goals exact (congrArg State.port h :)

theorem environment_cfg (s : State) : s.environment.cfg = s.cfg := by
  rcases environment_eq s with ⟨_, _, _, _, _, _, h⟩ | ⟨_, h⟩
  all_goals exact (congrArg State.cfg h :)

theorem step_keeps_undisturbed (hu : s.undisturbed) (h : step s = .next t) : t.undisturbed := by
  rcases step_cases hu h with ⟨-, rfl⟩ | ⟨-, tr⟩
  · exact (environment_port s).trans hu
  · exact (transition_port tr).trans hu

theorem step_keeps_cfg (hu : s.undisturbed) (h : step s = .next t) : t.cfg = s.cfg := by
  rcases step_cases hu h with ⟨-, rfl⟩ | ⟨-, tr⟩
  · exact environment_cfg s
  · exact transition_cfg tr

/-- An invariant of every step of the engine's own run: a property that no field of the environment's matters to, that
`rst` establishes or keeps, and that every branch of a rule keeps. -/
theorem step_keeps {P : State → Prop}
    (henv : ∀ (s : State) rxq src arr ticks inputs phase, P s →
      P { s with rxq := rxq, src := src, arr := arr, ticks := ticks, inputs := inputs, phase := phase })
    (hrst : ∀ s : State, P s → P s.rst)
    (htr : ∀ s t : State, legalParams s.cfg = true → P s → Transition s t → P t) :
    ∀ s t : State, s.undisturbed → P s → step s = .next t → t.undisturbed ∧ P t := by
  intro s t hu hP h
  refine ⟨step_keeps_undisturbed hu h, ?_⟩
  rcases step_cases hu h with ⟨-, rfl⟩ | ⟨-, tr⟩
  · rcases environment_eq s with ⟨rxq, src, arr, ticks, inputs, phase, henvironment⟩ | ⟨inputs, henvironment⟩
    · rw [henvironment]
      exact henv s rxq src arr ticks inputs phase hP
    · rw [henvironment]
      exact hrst _ (henv s s.rxq s.src s.arr s.ticks inputs s.phase hP)
  · exact htr s t (legalParams_of_step h) hP tr

end Sys2Proof.Machine
end

section
/-! The invariants of every step (R23 to R27, R32, R33, R41, R200): each is kept by every branch of a rule. -/

namespace Sys2Proof.Machine

variable {s t : State}

/-! ### The capacities of the buffers (R23, R24, R25) -/

/-- A data frame is its text and eight more bytes: DLE STX, CR LF, the end mark, the CRC (R24, R105). -/
theorem length_dataFrame (line : List Byte) (isLast : Bool) :
    (dataFrame line isLast).length = (stripEol line).length + 8 := by
  cases isLast <;> simp [dataFrame, dataBody, withSuffix, normLine, crcBytes]

theorem transition_keeps_buffersFit (h : s.buffersFit) (tr : Transition s t) : t.buffersFit := by
  obtain ⟨hrxbuf, htxf, hpay⟩ := h
  cases tr with
  | cycleStart _ hlegal => exact ⟨Nat.zero_le _, Nat.zero_le _, hlegal⟩
  | pause0Over => exact ⟨Nat.zero_le _, htxf, hpay⟩
  | bodyByte b more _ hroom | bodyDone b more _ hroom =>
    have hfits : (s.rxbuf ++ [b]).length ≤ s.cfg.bodyMax := by
      rw [List.length_append, List.length_singleton]
      omega
    exact ⟨hfits, htxf, hpay⟩
  | h2SendId =>
    have hframe : (headerFrame idBytes).length = 23 := by rw [headerFrame_idBytes]; rfl
    exact ⟨hrxbuf, hframe.trans_le (le_max_left _ _), hpay⟩
  | buildFrame line _ hline =>
    obtain ⟨-, hlines⟩ := (payloadLegal_iff _ _).mp hpay
    have htext := hlines line (List.mem_of_getElem? hline)
    have hframe : (dataFrame line s.isLastLine).length ≤ max 23 (s.cfg.lineMax + 8) := by
      rw [length_dataFrame]
      omega
    exact ⟨hrxbuf, hframe, hpay⟩
  | _ => exact ⟨hrxbuf, htxf, hpay⟩

/-- Settles O42: the branches that store into a buffer store no more than it holds. -/
theorem buffersStayWithinCapacity : Obligations.BuffersStayWithinCapacity := by
  unfold Obligations.BuffersStayWithinCapacity
  have hempty (p : Params) : payloadLegal p [] = true := (payloadLegal_iff _ _).mpr (by simp)
  exact step_keeps (fun _ _ _ _ _ _ _ h => h)
    (fun s _ => ⟨Nat.zero_le _, Nat.zero_le _, hempty s.cfg⟩) fun _ _ _ => transition_keeps_buffersFit

/-! ### The status word (R32) -/

/-- A status word that `statusLegal` allows. -/
def statusWordLegal (st : Word) : Prop :=
  reservedField st = 0 ∧ h2Out st ≠ 2 ∧ xfOut st ≠ 2 ∧ errField st ≤ 4

theorem statusLegal_iff (s : State) : s.statusLegal ↔ statusWordLegal s.status := Iff.rfl

theorem statusWordLegal_zero : statusWordLegal 0 := by
  unfold statusWordLegal
  decide

theorem statusWordLegal_setErr {st : Word} {e : BitVec 3} (h : statusWordLegal st) (he : e ≤ 4) :
    statusWordLegal (setErr st e) := by
  obtain ⟨hreserved, hh2, hxf, -⟩ := h
  rw [statusWordLegal, reservedField_setErr, h2Out_setErr, xfOut_setErr, errField_setErr]
  exact ⟨hreserved, hh2, hxf, he⟩

theorem outcomeCode_ne_two {o : StageOutcome} (ho : o ≠ .protocolError) : outcomeCode o ≠ 2 := by
  cases o with
  | protocolError => exact absurd rfl ho
  | none | success | timeout => decide

/-- Handshake 1 alone has the outcome PROTOCOL_ERROR (R221). -/
theorem statusWordLegal_setStageOut {st : Word} {x : Stage} {o : StageOutcome} (h : statusWordLegal st)
    (ho : x = .h1 ∨ o ≠ .protocolError) : statusWordLegal (setStageOut x st o) := by
  obtain ⟨hreserved, hh2, hxf, herr⟩ := h
  cases x with
  | h1 =>
    rw [setStageOut, statusWordLegal, reservedField_setH1Out, h2Out_setH1Out, xfOut_setH1Out, errField_setH1Out]
    exact ⟨hreserved, hh2, hxf, herr⟩
  | h2 =>
    rw [setStageOut, statusWordLegal, reservedField_setH2Out, h2Out_setH2Out, xfOut_setH2Out, errField_setH2Out]
    exact ⟨hreserved, outcomeCode_ne_two (by simpa using ho), hxf, herr⟩
  | xf =>
    rw [setStageOut, statusWordLegal, reservedField_setXfOut, h2Out_setXfOut, xfOut_setXfOut, errField_setXfOut]
    exact ⟨hreserved, hh2, outcomeCode_ne_two (by simpa using ho), herr⟩

theorem fatalCode_le_four (k : FatalKind) : fatalCode k ≤ 4 := by cases k <;> decide

/-- The status a fatal error writes is legal for every kind in handshake 1, and for a timeout in the other stages
(R221). -/
theorem raise_keeps_statusLegal {x : Stage} {k : FatalKind} (hkind : x = .h1 ∨ k = .handshakeTimeout)
    (h : s.statusLegal) : (s.raise x k).statusLegal :=
  statusWordLegal_setStageOut (statusWordLegal_setErr h (fatalCode_le_four k))
    (hkind.imp_right fun hk => by simp [hk, fatalOutcome])

theorem transition_keeps_statusLegal (h : s.statusLegal) (tr : Transition s t) : t.statusLegal := by
  cases tr with
  | cycleStart => exact (statusLegal_iff _).mpr statusWordLegal_zero
  | expire => exact raise_keeps_statusLegal (.inr rfl) h
  | malformed | checksum => exact raise_keeps_statusLegal (.inl rfl) h
  | gotEot | h2SendEot | linesDone => exact statusWordLegal_setStageOut h (.inr (by decide))
  | lineTimeout => exact statusWordLegal_setErr h (by decide)
  | _ => exact h

/-- Settles O43: the errors, the successes and the abandoned line write fields R32 allows. -/
theorem statusStaysLegal : Obligations.StatusStaysLegal := by
  unfold Obligations.StatusStaysLegal
  exact step_keeps (fun _ _ _ _ _ _ _ h => h) (fun s _ => (statusLegal_iff s.rst).mpr statusWordLegal_zero)
    fun _ _ _ => transition_keeps_statusLegal

/-! ### The line index (R26, R33, R41) -/

theorem toNat_add_one_of_lt {w : Word} {n : Nat} (hlt : w.toNat < n) (hn : n ≤ 65535) :
    (w + 1).toNat = w.toNat + 1 := by
  bv_omega

theorem toNat_add_one_le (w : Word) : (w + 1).toNat ≤ w.toNat + 1 := by
  bv_omega

theorem transition_keeps_lineIndexFits (hlegal : legalParams s.cfg = true) (h : s.lineIndexFits)
    (tr : Transition s t) : t.lineIndexFits := by
  obtain ⟨hlines, hli, hskipped, hinside⟩ := h
  cases tr with
  | cycleStart _ hpayload =>
    obtain ⟨hsrc, -⟩ := (payloadLegal_iff _ _).mp hpayload
    exact ⟨hsrc, Nat.zero_le _, le_rfl, fun hin => by simp [inLine] at hin⟩
  | wait | lineNak | bodyByte => exact ⟨hlines, hli, hskipped, hinside⟩
  | firstLine _ hmore | laterLine _ hmore => exact ⟨hlines, hli, hskipped, fun _ => hmore⟩
  | xfSendEnq hseq | xfGotAck0 _ hseq | buildFrame _ hseq | sendFrame hseq =>
    exact ⟨hlines, hli, hskipped, fun _ => hinside (by rw [hseq]; rfl)⟩
  | lineAck _ _ hseq | lineTimeout hseq =>
    obtain ⟨-, -, -, -, -, -, hmax, -⟩ := (legalParams_iff _).mp hlegal
    have hlast : s.li.toNat < s.pay.length := hinside (by rw [hseq]; rfl)
    have hnext := toNat_add_one_of_lt hlast (hlines.trans hmax)
    have hcount := toNat_add_one_le s.skipped
    refine ⟨hlines, ?_, ?_, fun hin => by simp [inLine] at hin⟩ <;> dsimp only <;> omega
  | expire x =>
    refine ⟨hlines, hli, hskipped, fun hin => ?_⟩
    cases x <;> simp [doneState, inLine] at hin
  | _ => exact ⟨hlines, hli, hskipped, fun hin => by simp [doneState, inLine] at hin⟩

/-- Settles O44: a line is begun only below `|pay|`, and the index moves on only where a line ends. -/
theorem lineIndexStaysInside : Obligations.LineIndexStaysInside := by
  unfold Obligations.LineIndexStaysInside
  exact step_keeps (fun _ _ _ _ _ _ _ h => h)
    (fun _ _ => ⟨Nat.zero_le _, le_rfl, le_rfl, fun hin => by simp [inLine] at hin⟩)
    fun _ _ => transition_keeps_lineIndexFits

/-- Settles O48: of the two stops of `exec_seq_cases` only the second is a fault, and it needs a line outside `pay`. -/
theorem engineNeverFaults : Obligations.EngineNeverFaults := by
  unfold Obligations.EngineNeverFaults
  intro s f hu ⟨_, _, _, hinside⟩ hfault
  have hlegal : legalParams s.cfg = true := by
    by_contra hillegal
    rw [step_illegal (Bool.eq_false_iff.mpr hillegal)] at hfault
    cases hfault
  cases hphase : s.phase with
  | waiting =>
    rw [step_waiting hlegal hu hphase] at hfault
    cases hfault
  | running =>
    rw [step_running hlegal hu hphase] at hfault
    rcases exec_seq_cases s with ⟨t, hnext, -⟩ | ⟨-, -, hrefused⟩ | ⟨hseq, houtside, -⟩
    · rw [hnext] at hfault
      cases hfault
    · rw [hrefused] at hfault
      cases hfault
    · exact absurd (hinside (by rw [hseq]; rfl)) (Nat.not_lt.mpr houtside)

/-! ### The order of the stages (R200) -/

/-- Where neither handshake 2 nor the transfer runs, nothing is asked of `STATUS`. -/
theorem stagesInOrder_of_outside (hh2 : inH2 s.seq = false) (hxf : inXf s.seq = false) : s.stagesInOrder :=
  ⟨fun h => by simp [hh2] at h, fun h => by simp [hxf] at h⟩

/-- In handshake 2 the outcome of handshake 1 is asked for. -/
theorem stagesInOrder_of_inH2 (hxf : inXf s.seq = false) (h1 : h1Out s.status = 1) : s.stagesInOrder :=
  ⟨fun _ => h1, fun h => by simp [hxf] at h⟩

theorem stagesInOrder_of_success (h1 : h1Out s.status = 1) (h2 : h2Out s.status = 1) : s.stagesInOrder :=
  ⟨fun _ => h1, fun _ => ⟨h1, h2⟩⟩

theorem transition_keeps_stagesInOrder (h : s.stagesInOrder) (tr : Transition s t) : t.stagesInOrder := by
  obtain ⟨hh2, hxf⟩ := h
  cases tr with
  | wait | bodyByte | lineNak => exact ⟨hh2, hxf⟩
  | cycleStart | cycleEnd | malformed | checksum | gotEnq | sendAck0 | pause0Over | bodyDone | crcRead | crcOk
  | sendAck1 | sendAck1Pause | pause1Over | gotEot | h1DoneFail | h2DoneFail | xfDone =>
    exact stagesInOrder_of_outside rfl rfl
  | h1DoneOk _ hok => exact stagesInOrder_of_inH2 rfl hok
  | h2SendEnq hseq | h2GotAck0 _ hseq | h2SendId hseq | h2GotAck1 _ hseq | h2PauseOver hseq =>
    exact stagesInOrder_of_inH2 rfl (hh2 (by rw [hseq]; rfl))
  | h2SendEot hseq =>
    have hok : h1Out s.status = 1 := hh2 (by rw [hseq]; rfl)
    exact stagesInOrder_of_inH2 rfl ((h1Out_setH2Out _ _).trans hok)
  | h2DoneOk hseq hok => exact stagesInOrder_of_success (hh2 (by rw [hseq]; rfl)) hok
  | firstLine hseq | laterLine hseq | xfSendEnq hseq | xfGotAck0 _ hseq | buildFrame _ hseq | sendFrame hseq
  | lineAck _ _ hseq =>
    obtain ⟨hok1, hok2⟩ := hxf (by rw [hseq]; rfl)
    exact stagesInOrder_of_success hok1 hok2
  | linesDone hseq =>
    obtain ⟨hok1, hok2⟩ := hxf (by rw [hseq]; rfl)
    exact stagesInOrder_of_success ((h1Out_setXfOut _ _).trans hok1) ((h2Out_setXfOut _ _).trans hok2)
  | lineTimeout hseq =>
    obtain ⟨hok1, hok2⟩ := hxf (by rw [hseq]; rfl)
    exact stagesInOrder_of_success ((h1Out_setErr _ _).trans hok1) ((h2Out_setErr _ _).trans hok2)
  | expire x _ hwait =>
    rcases hwait with ⟨-, rfl⟩ | ⟨-, rfl⟩ | ⟨hseq, rfl⟩ | ⟨hseq, rfl⟩ | ⟨hseq, rfl⟩
    · exact stagesInOrder_of_outside rfl rfl
    · exact stagesInOrder_of_outside rfl rfl
    · exact stagesInOrder_of_inH2 rfl (by simpa [setStageOut] using hh2 (by rw [hseq]; rfl))
    · exact stagesInOrder_of_inH2 rfl (by simpa [setStageOut] using hh2 (by rw [hseq]; rfl))
    · obtain ⟨hok1, hok2⟩ := hxf (by rw [hseq]; rfl)
      exact stagesInOrder_of_success (by simpa [setStageOut] using hok1) (by simpa [setStageOut] using hok2)

/-- Settles O45: a stage is entered where the one before it wrote SUCCESS, and no stage writes the outcome of one
before it. -/
theorem stagesRunInOrder : Obligations.StagesRunInOrder := by
  unfold Obligations.StagesRunInOrder
  exact step_keeps (fun _ _ _ _ _ _ _ h => h) (fun _ _ => stagesInOrder_of_outside rfl rfl)
    fun _ _ _ => transition_keeps_stagesInOrder

/-! ### The timer and the pause after ACK1 (R27, R130, R150) -/

theorem toNat_nEnq (p : Params) : (nEnq p).toNat = 300000 / p.tPollMs := by
  have hmax : tEnqMs / p.tPollMs ≤ 300000 := Nat.div_le_self _ _
  rw [nEnq, BitVec.toNat_ofNat, Nat.mod_eq_of_lt (by omega)]
  rfl

/-- A duration of at most `T_ENQ_MS` makes at most `N_ENQ` ticks (R130). -/
theorem load_le_nEnq {ms : Nat} (p : Params) (h : ms ≤ tEnqMs) :
    (BitVec.ofNat 32 (ms / p.tPollMs)).toNat ≤ (nEnq p).toNat := by
  rw [toNat_nEnq, BitVec.toNat_ofNat]
  exact (Nat.mod_le _ _).trans (Nat.div_le_div_right h)

/-- `N_RXB` is its quotient or less (R9). -/
theorem toNat_nRxb_le (p : Params) : (nRxb p).toNat ≤ p.tRxbyteMs / p.tPollMs := by
  rw [nRxb, BitVec.toNat_ofNat]
  exact Nat.mod_le _ _

theorem toNat_tmr_sub_one {n : Timer} (h : n ≠ 0) : (n - 1).toNat = n.toNat - 1 := by
  bv_omega

/-- A load of at most `T_ENQ_MS` keeps the bound. -/
theorem timerBounded_of_load {ms : Nat} (h : ms ≤ tEnqMs) (htmr : s.tmr = BitVec.ofNat 32 (ms / s.cfg.tPollMs)) :
    s.timerBounded := by
  rw [State.timerBounded, htmr]
  exact (load_le_nEnq s.cfg h).trans (le_max_left _ _)

theorem timerBounded_of_nRxb (htmr : s.tmr = nRxb s.cfg) : s.timerBounded := by
  rw [State.timerBounded, htmr]
  exact le_max_right _ _

theorem timerBounded_of_count (h : s.timerBounded) (hcfg : t.cfg = s.cfg) (h0 : s.tmr ≠ 0) (htmr : t.tmr = s.tmr - 1) :
    t.timerBounded := by
  unfold State.timerBounded at h ⊢
  rw [hcfg, htmr, toNat_tmr_sub_one h0]
  omega

theorem transition_keeps_timerBounded (h : s.timerBounded) (tr : Transition s t) : t.timerBounded := by
  cases tr with
  | cycleStart => exact timerBounded_of_load (ms := tEnqMs) le_rfl rfl
  | sendAck0 | sendAck1Pause | h2GotAck1 => exact timerBounded_of_load (ms := tPauseMs) (by decide) rfl
  | sendAck1 | pause1Over => exact timerBounded_of_load (ms := tEotMs) (by decide) rfl
  | h2SendEnq | h2SendId | xfSendEnq => exact timerBounded_of_load (ms := tAckMs) (by decide) rfl
  | sendFrame => exact timerBounded_of_load (ms := tLineMs) (by decide) rfl
  | pause0Over | bodyByte | bodyDone => exact timerBounded_of_nRxb rfl
  | wait _ _ h0 | gotEnq _ _ h0 | gotEot _ _ h0 | h2GotAck0 _ _ h0 | xfGotAck0 _ _ h0 | lineAck _ _ _ h0 =>
    exact timerBounded_of_count h rfl h0 rfl
  | lineNak _ _ h0 =>
    cases hcfg : s.cfg.nakRestartsWindow with
    | true => exact timerBounded_of_load (ms := tLineMs) (by decide) rfl
    | false => exact timerBounded_of_count h rfl h0 rfl
  | _ => exact h

theorem transition_keeps_ack1PauseAllowed (h : s.ack1PauseAllowed) (tr : Transition s t) : t.ack1PauseAllowed := by
  cases tr with
  | wait => exact h
  | sendAck1Pause _ hcfg => exact fun _ => hcfg
  | bodyByte _ _ hseq | lineNak _ hseq => exact fun hpause => by simp [hseq] at hpause
  | expire x =>
    intro hpause
    cases x <;> cases hpause
  | _ => exact fun hpause => by cases hpause

/-- Settles O46: every load is one of R130's, and every other write counts down; the bound of R27 is the case of a small
`N_RXB`. -/
theorem timerAndPauseStayBounded : Obligations.TimerAndPauseStayBounded := by
  unfold Obligations.TimerAndPauseStayBounded
  intro s t hu htmr hpause h
  have hstart (s : State) : s.rst.timerBounded ∧ s.rst.ack1PauseAllowed :=
    ⟨Nat.zero_le _, fun hseq => by cases hseq⟩
  obtain ⟨hu', htmr', hpause'⟩ := step_keeps (P := fun s => s.timerBounded ∧ s.ack1PauseAllowed)
    (fun _ _ _ _ _ _ _ h => h) (fun s _ => hstart s)
    (fun _ _ _ ⟨htmr, hpause⟩ tr =>
      ⟨transition_keeps_timerBounded htmr tr, transition_keeps_ack1PauseAllowed hpause tr⟩) s t hu ⟨htmr, hpause⟩ h
  have hcfg := step_keeps_cfg hu h
  refine ⟨hu', htmr', hpause', hcfg, fun hrxb => ?_⟩
  have hsmall : (nRxb t.cfg).toNat ≤ 300000 / t.cfg.tPollMs :=
    (toNat_nRxb_le t.cfg).trans (Nat.div_le_div_right (hcfg ▸ hrxb))
  exact htmr'.trans (max_le (toNat_nEnq t.cfg).le hsmall)

/-- Settles O47. -/
theorem invariantsHoldAtReset : Obligations.InvariantsHoldAtReset := by
  unfold Obligations.InvariantsHoldAtReset
  exact ⟨rfl, ⟨Nat.zero_le _, Nat.zero_le _, rfl⟩, statusWordLegal_zero,
    ⟨Nat.zero_le _, le_rfl, le_rfl, fun hin => by cases hin⟩, stagesInOrder_of_outside rfl rfl, Nat.zero_le _,
    fun hseq => by cases hseq⟩

/-! ### The transition table (R202) -/

/-- Settles O49, branch by branch: three branches stay in their state. -/
theorem transitionsAreTheTable : Obligations.TransitionsAreTheTable := by
  unfold Obligations.TransitionsAreTheTable
  intro s t hu hphase h
  rcases step_cases hu h with ⟨hwaiting, -⟩ | ⟨-, tr⟩
  · rw [hphase] at hwaiting
    cases hwaiting
  · cases tr with
    | wait _ htimed => exact .inr ⟨rfl, htimed, .inl rfl⟩
    | lineNak _ hseq => exact .inr ⟨rfl, by rw [hseq]; rfl, .inl rfl⟩
    | bodyByte _ _ hseq => exact .inr ⟨rfl, by rw [hseq]; rfl, .inr hseq⟩
    | expire x _ hwait =>
      refine .inl ⟨?_, rfl⟩
      rcases hwait with ⟨hseq, rfl⟩ | ⟨hseq, rfl⟩ | ⟨hseq, rfl⟩ | ⟨hseq, rfl⟩ | ⟨hseq, rfl⟩
      all_goals simp [hseq, successors, doneState]
    | malformed hread =>
      refine .inl ⟨?_, rfl⟩
      rcases hread with ⟨hseq, -⟩ | ⟨hseq | hseq, -⟩
      all_goals simp [hseq, successors, doneState]
    | _ => exact .inl ⟨by simp [*, successors, doneState], rfl⟩

end Sys2Proof.Machine
end

section
/-! Two more forms of CRC.STEP: the conditional exclusive or of R97, and linearity (R91). -/

namespace Sys2Proof.Machine

/-- One iteration of the form of R97: a shift, and an exclusive or with 0xA001 when a 1 was shifted out. -/
def shiftXor (x : Word) : Word := (x >>> 1) ^^^ (if x.getLsbD 0 then 0xA001 else 0x0000)

/-- The polynomial's bits are the places of the three feedbacks of R91. -/
theorem getLsbD_shiftXor (x : Word) {k : Nat} (hk : k < 16) :
    (shiftXor x).getLsbD k =
      (if k = 15 then x.getLsbD 0
       else if k = 13 then x.getLsbD 14 ^^ x.getLsbD 0
       else if k = 0 then x.getLsbD 1 ^^ x.getLsbD 0
       else x.getLsbD (k + 1)) := by
  have hpoly : (0xA001 : Word).getLsbD k = decide (k = 15 ∨ k = 13 ∨ k = 0) := by
    revert k
    decide
  have hadded : (if x.getLsbD 0 then 0xA001 else 0x0000 : Word).getLsbD k
      = (decide (k = 15 ∨ k = 13 ∨ k = 0) && x.getLsbD 0) := by
    cases x.getLsbD 0 with
    | false => simp
    | true => rw [if_pos rfl, hpoly, Bool.and_true]
  rw [shiftXor, BitVec.getLsbD_xor, BitVec.getLsbD_ushiftRight, Nat.add_comm 1 k, hadded]
  split_ifs with k15 k13 k0
  · simp [k15]
  · simp [k13]
  · simp [k0]
  · simp [k15, k13, k0]

/-- An iteration of R97 on a word joined with input bits does an iteration of R91 with the lowest of them, and moves
the others down. -/
theorem shiftXor_xor_ushiftRight (s w : Word) (j : Nat) :
    shiftXor (s ^^^ (w >>> j)) = crcBit s (w.getLsbD j) ^^^ (w >>> (j + 1)) := by
  apply BitVec.eq_of_getLsbD_eq
  intro k hk
  simp only [getLsbD_shiftXor _ hk, BitVec.getLsbD_xor, getLsbD_crcBit _ _ hk, BitVec.getLsbD_ushiftRight,
    Nat.add_zero, Nat.add_assoc, Nat.add_comm 1 k]
  split_ifs with k15 k13 k0
  · rw [BitVec.getLsbD_of_ge w (j + (k + 1)) (by omega), Bool.xor_false]
  · rw [k13, Bool.xor_assoc, Bool.xor_assoc, Bool.xor_comm (w.getLsbD (j + 14)), Bool.xor_assoc]
  · rw [k0, Bool.xor_assoc, Bool.xor_assoc, Bool.xor_comm (w.getLsbD (j + 1)), Bool.xor_assoc]
  · rfl

/-- After `j` iterations the two forms differ by the input bits that are still to come (R97). -/
theorem shiftXor_iterate (s : Word) (b : Byte) (j : Nat) :
    shiftXor^[j] (s ^^^ b.setWidth 16) = crcIter s b j ^^^ (b.setWidth 16 >>> j) := by
  induction j with
  | zero => simp [crcIter]
  | succ j ih =>
    have hbit : (b.setWidth 16 : Word).getLsbD j = b.getLsbD j := by
      rw [BitVec.getLsbD_setWidth]
      by_cases hj : j < 8
      · simp [show j < 16 by omega]
      · simp [BitVec.getLsbD_of_ge b j (by omega)]
    rw [Function.iterate_succ_apply', ih, shiftXor_xor_ushiftRight, hbit, crcIter]

/-- Settles O4: after eight iterations no input bit is left. -/
theorem crcStepIsConditionalXor : Obligations.CrcStepIsConditionalXor := by
  unfold Obligations.CrcStepIsConditionalXor
  intro s b
  have hused : (b.setWidth 16 : Word) >>> 8 = 0 := by
    apply BitVec.eq_of_toNat_eq
    rw [BitVec.toNat_ushiftRight, BitVec.toNat_setWidth_of_le (by decide), Nat.shiftRight_eq_div_pow]
    exact Nat.div_eq_of_lt b.isLt
  have hstep : crcByte s.crc b = shiftXor^[8] (s.crc ^^^ b.setWidth 16) := by
    rw [shiftXor_iterate, hused, crcByte_eq_crcIter]
    exact BitVec.xor_zero.symm
  rw [exec_crcStep, hstep]
  rfl

theorem crcBit_xor (s1 s2 : Word) (d1 d2 : Bool) :
    crcBit (s1 ^^^ s2) (d1 ^^ d2) = crcBit s1 d1 ^^^ crcBit s2 d2 := by
  apply BitVec.eq_of_getLsbD_eq
  intro k hk
  simp only [BitVec.getLsbD_xor, getLsbD_crcBit _ _ hk]
  split_ifs <;> simp only [Bool.xor_assoc, Bool.xor_left_comm]

theorem crcIter_xor (s1 s2 : Word) (b1 b2 : Byte) (j : Nat) :
    crcIter (s1 ^^^ s2) (b1 ^^^ b2) j = crcIter s1 b1 j ^^^ crcIter s2 b2 j := by
  induction j with
  | zero => rfl
  | succ j ih => simp only [crcIter, ih, BitVec.getLsbD_xor, crcBit_xor]

/-- Settles O5: each bit of an iteration is an exclusive or of bits of its inputs. -/
theorem crcStepLinear : Obligations.CrcStepLinear := by
  unfold Obligations.CrcStepLinear
  intro s1 s2 b1 b2
  simp only [crcByte_eq_crcIter, crcIter_xor]

end Sys2Proof.Machine
end

section
/-! Tokens and frames run as instructions (R60 to R65; log 2, log 3), the framer (R100 to R106) and the recognizer
(R107 to R110). -/

namespace Sys2Proof.Machine

/-- Settles O1: every token is an arrival of its own bytes. -/
theorem controlCodesAndPairsArrive : Obligations.ControlCodesAndPairsArrive := by
  unfold Obligations.ControlCodesAndPairsArrive
  intro s
  exact ⟨rfl, rfl, rfl, rfl, rfl, rfl, rfl, rfl, rfl, rfl, rfl, rfl, rfl, rfl⟩

/-! ### Frames and the framer (R64, R65, R100 to R106) -/

section
variable {t e : List Byte}

/-- A header frame with its CRC as numbers (R64, R106). -/
theorem headerFrame_eq_ofNat (ident : List Byte) :
    headerFrame ident = headerBody ident
      ++ [BitVec.ofNat 8 (headerCrc ident).toNat, BitVec.ofNat 8 ((headerCrc ident).toNat / 256)] := by
  rw [headerFrame, crcBytes_eq_ofNat]

theorem exec_hf (ident : List Byte) (s : State) : exec (.hf ident) s = .next (s.sendHeader ident) := rfl

/-- A data frame run as an instruction: built, then sent (R105, R112). -/
theorem exec_dataInstr (line : List Byte) (isLast : Bool) (s : State) :
    exec (dataInstr line isLast) s = .next { s with
      crc := dataCrc line isLast, txf := dataFrame line isLast
      txs := s.txs ++ (dataFrame line isLast).map fun b => (s.ticks - 1, b) } := by
  cases isLast <;> rfl

/-- The same with the frame's bytes written out: DLE STX, the text, CR LF, DLE and the end mark, the CRC low byte first
(R65, R102, R103). -/
theorem exec_dataInstr_bytes (isLast : Bool) (s : State) (ht : noTrailingEol t = true)
    (he : ∀ b ∈ e, b = 0x0D ∨ b = 0x0A) :
    let c := crcOf .dle (t ++ [0x0D, 0x0A, 0x10, if isLast then 0x03 else 0x17])
    let f := [0x10, 0x02] ++ t ++ [0x0D, 0x0A, 0x10, if isLast then 0x03 else 0x17]
      ++ [BitVec.ofNat 8 c.toNat, BitVec.ofNat 8 (c.toNat / 256)]
    exec (dataInstr (t ++ e) isLast) s
      = .next { s with crc := c, txf := f, txs := s.txs ++ f.map fun b => (s.ticks - 1, b) } := by
  intro c f
  have hbody := dataBody_append isLast ht he
  have hcrc : dataCrc (t ++ e) isLast = c := by rw [dataCrc, hbody]
  have hframe : dataFrame (t ++ e) isLast = f := by rw [dataFrame_eq_ofNat, hcrc, hbody, ← List.append_assoc]
  rw [exec_dataInstr, hcrc, hframe]

/-- Settles O2: a header is its body and the CRC of all of it; the two data rows are one frame with either end mark. -/
theorem framesAreBuiltAndSent : Obligations.FramesAreBuiltAndSent := by
  unfold Obligations.FramesAreBuiltAndSent
  refine ⟨fun s ident => ?header, fun s t e ht he => ?lineEtb, fun s t e ht he => ?lineEtx⟩
  case header =>
    rw [exec_hf, sendHeader_eq, headerFrame_eq_ofNat]
    rfl
  case lineEtb => exact exec_dataInstr_bytes false s ht he
  case lineEtx => exact exec_dataInstr_bytes true s ht he

/-- A normalised line's bytes (R102). -/
theorem normLine_append (ht : noTrailingEol t = true) (he : ∀ b ∈ e, b = 0x0D ∨ b = 0x0A) :
    normLine (t ++ e) = t ++ [0x0D, 0x0A] := by
  rw [normLine, stripEol_append t e ht fun b hb => by simpa [isEol, bCR, bLF] using he b hb]
  rfl

/-- Settles O7. -/
theorem normalisedLineEndsInOneCrLf : Obligations.NormalisedLineEndsInOneCrLf := by
  unfold Obligations.NormalisedLineEndsInOneCrLf
  intro s t e ht he
  rw [← normLine_append ht he]
  rfl

/-- Settles O8: the CRC's two bytes are its quotient and its remainder by 256. -/
theorem framerOperations : Obligations.FramerOperations := by
  unfold Obligations.FramerOperations
  intro s bytes
  refine ⟨rfl, rfl, rfl, ?_⟩
  rw [← crcBytes_eq_ofNat]
  rfl

theorem exec_frmDf (line : List Byte) (isLast : Bool) (s : State) :
    exec (.frmDf line isLast) s
      = .next { s with crc := dataCrc line isLast, txf := dataFrame line isLast } := rfl

/-- Settles O9: the frame of R105 with the line's body in bytes. -/
theorem dataFrameBuilt : Obligations.DataFrameBuilt := by
  unfold Obligations.DataFrameBuilt
  intro s t e isLast ht he body c
  have hbody : dataBody (t ++ e) isLast = body := dataBody_append isLast ht he
  have hcrc : dataCrc (t ++ e) isLast = c := by rw [dataCrc_eq_foldl, hbody]
  rw [exec_frmDf, dataFrame_eq_ofNat, hcrc, hbody]

end

/-! ### The recognizer (R107 to R110) -/

/-- Settles O10: a comparison of bytes is one of all their bits. -/
theorem recognizerCompares : Obligations.RecognizerCompares := by
  unfold Obligations.RecognizerCompares
  intro s b c0 c1
  refine ⟨rfl, rfl, ?ack0, ?ack1⟩
  all_goals
    rw [Bool.decide_and]
    rfl

/-- Settles O11. -/
theorem suffixRecognised : Obligations.SuffixRecognised := by
  unfold Obligations.SuffixRecognised
  intro s
  exact ⟨endsInSuffix s.rxbuf, rfl, endsInSuffix_iff s.rxbuf⟩

section
variable {s : State}

theorem classify_nil (hrxq : s.rxq = []) : s.classify = (.none, 0) := by
  simp [State.classify, hrxq]

theorem classify_nak {more : List Byte} (hrxq : s.rxq = bNAK :: more) : s.classify = (.nak, 1) := by
  simp [State.classify, hrxq]

theorem classify_lone {a : Byte} (hrxq : s.rxq = [a]) (ha : a ≠ bNAK) : s.classify = (.none, 0) := by
  simp [State.classify, hrxq, ha]

/-- A chunk is an acknowledgment or noise (R109). -/
theorem classify_chunk {a b : Byte} {more : List Byte} (hrxq : s.rxq = a :: b :: more) (ha : a ≠ bNAK) :
    s.classify = (if a = bDLE ∧ (b = 0x30 ∨ b = 0x31) then .ack else .noise, 2) := by
  have hack : (isAck a b .ack0 || isAck a b .ack1) = decide (a = bDLE ∧ (b = 0x30 ∨ b = 0x31)) := by
    simp only [isAck, ackDigit, ← Bool.and_or_distrib_left, Bool.decide_and, Bool.decide_or]
    rfl
  simp only [State.classify, hrxq, beq_eq_false_iff_ne.mpr ha, hack, decide_eq_true_eq, Bool.false_eq_true, if_false]
  split_ifs <;> rfl

theorem classify_ack {b : Byte} {more : List Byte} (hrxq : s.rxq = bDLE :: b :: more) (hdigit : b = 0x30 ∨ b = 0x31) :
    s.classify = (.ack, 2) := by
  rw [classify_chunk hrxq (by decide), if_pos ⟨rfl, hdigit⟩]

theorem classify_noise {a b : Byte} {more : List Byte} (hrxq : s.rxq = a :: b :: more) (ha : a ≠ bNAK)
    (hpair : ¬(a = bDLE ∧ (b = 0x30 ∨ b = 0x31))) : s.classify = (.noise, 2) := by
  rw [classify_chunk hrxq ha, if_neg hpair]

/-- RCG.RESP leaves the class and the count, and takes nothing (R109). -/
theorem exec_rcgResp {c : RespClass} {n : Nat} (h : s.classify = (c, n)) :
    exec .rcgResp s = .next { s with res := .resp c n } := by
  simp only [exec, execRcgResp, h]
  rfl

end

/-- Settles O12: the classes of R109, a chunk being an acknowledgment or noise. -/
theorem responseClassified : Obligations.ResponseClassified := by
  unfold Obligations.ResponseClassified
  intro s a b more
  exact ⟨fun hrxq => exec_rcgResp (classify_nil hrxq),
    fun hrxq => exec_rcgResp (classify_nak hrxq),
    fun hrxq ha => exec_rcgResp (classify_lone hrxq ha),
    fun hrxq hdigit => exec_rcgResp (classify_ack hrxq hdigit),
    fun hrxq ha hpair => exec_rcgResp (classify_noise hrxq ha hpair)⟩

end Sys2Proof.Machine
end

section
/-! The readers and the pause run as instructions (R121 to R127), and the read of the body in `H1_READ_BODY` (R144). -/

namespace Sys2Proof.Machine

variable {s : State}

/-- The result code is left in `res`, whatever the attempt did (log 6). -/
theorem attempted_eq {p : ReadResult × State} {r : ReadResult} {t : State} (h : p = (r, t)) :
    State.attempted p = { t with res := .code r } := by
  rw [h]
  rfl

/-! ### The polled waits (R121 to R124) -/

/-- One attempt of a one-byte wait, for either awaited code (R121, R122). -/
theorem attempted_pollCtl (code : CtlCode) (s : State) (b : Byte) (more : List Byte) :
    let left := State.attempted (pollAttempt (readCtl code) s)
    (s.tmr = 0 → left = { s with res := .code .expired }) ∧
    (s.tmr ≠ 0 → s.rxq = [] → left = { s with tmr := s.tmr - 1, res := .code .pending }) ∧
    (s.tmr ≠ 0 → s.rxq = ctlByte code :: more →
      left = { s with tmr := s.tmr - 1, rxq := more, res := .code .matched }) ∧
    (s.tmr ≠ 0 → s.rxq = b :: more → b ≠ ctlByte code →
      left = { s with tmr := s.tmr - 1, rxq := more, res := .code .pending }) :=
  ⟨fun htmr => attempted_eq (pollCtl_expired htmr),
    fun htmr hrxq => attempted_eq (pollCtl_nothing htmr hrxq),
    fun htmr hrxq => attempted_eq (pollCtl_awaited htmr hrxq),
    fun htmr hrxq hb => attempted_eq (pollCtl_other htmr hrxq hb)⟩

/-- Settles O13: both waits are one attempt, with their own awaited byte. -/
theorem waitForControlByte : Obligations.WaitForControlByte := by
  unfold Obligations.WaitForControlByte
  intro i code hwait s b more
  obtain ⟨ctl, rfl, hexec⟩ : ∃ ctl, code = ctlByte ctl ∧
      exec i s = .next (State.attempted (pollAttempt (readCtl ctl) s)) := by
    rcases List.mem_pair.mp hwait with h | h
    · cases h
      exact ⟨.enq, rfl, rfl⟩
    · cases h
      exact ⟨.eot, rfl, rfl⟩
  simp only [hexec, Host.Outcome.next.injEq]
  exact attempted_pollCtl ctl s b more

theorem exec_waitAck {n : AckNo} {r : ReadResult} {t : State} (h : s.waitAckOnce n = (r, t)) :
    exec (.waitAck n) s = .next { t with res := .code r } :=
  congrArg Host.Outcome.next (attempted_eq h)

/-- Settles O14: the branches of an attempt that awaits either acknowledgment. -/
theorem waitForAck : Obligations.WaitForAck := by
  unfold Obligations.WaitForAck
  intro n digit hwait s a b more
  have hdigit : digit = ackDigit n := by
    rcases List.mem_pair.mp hwait with h | h <;> cases h <;> rfl
  subst hdigit
  exact ⟨fun htmr => exec_waitAck (waitAckOnce_expired htmr),
    fun htmr hrxq => exec_waitAck (waitAckOnce_short htmr hrxq),
    fun htmr hrxq => exec_waitAck (waitAckOnce_awaited htmr hrxq),
    fun htmr hrxq hpair => exec_waitAck (waitAckOnce_other htmr hrxq hpair)⟩

theorem exec_waitResp {r : ReadResult} {t : State} (h : s.waitRespOnce = (r, t)) :
    exec .waitResp s = .next { t with res := .code r } :=
  congrArg Host.Outcome.next (attempted_eq h)

/-- Settles O15: the branches of an attempt that awaits a line's response. -/
theorem waitForResponse : Obligations.WaitForResponse := by
  unfold Obligations.WaitForResponse
  intro s a b more
  exact ⟨fun htmr => exec_waitResp (waitRespOnce_expired htmr),
    fun htmr hrxq => exec_waitResp (waitRespOnce_short htmr (.inl hrxq)),
    fun htmr hrxq => exec_waitResp (waitRespOnce_nak htmr hrxq),
    fun htmr hrxq ha => exec_waitResp (waitRespOnce_short htmr (.inr ⟨a, hrxq, ha⟩)),
    fun htmr hrxq hdigit => exec_waitResp (waitRespOnce_ack htmr hrxq hdigit),
    fun htmr hrxq ha hpair => exec_waitResp (waitRespOnce_noise htmr hrxq ha hpair)⟩

/-! ### The blocking reads and the pause (R125 to R127, R144) -/

theorem readBodyOnce_full (hfull : s.rxbuf.length = s.cfg.bodyMax) : s.readBodyOnce = (.overflow, s) := by
  rcases readBody_cases s with ⟨-, hread⟩ | ⟨hroom, -⟩ | ⟨hroom, -⟩ | ⟨hroom, -⟩ | ⟨hroom, -⟩
  · exact hread
  all_goals exact absurd hfull hroom

theorem readBodyOnce_expired (hroom : s.rxbuf.length ≠ s.cfg.bodyMax) (hrxq : s.rxq = []) (htmr : s.tmr = 0) :
    s.readBodyOnce = (.expired, s) := by
  rcases readBody_cases s with ⟨hfull, -⟩ | ⟨-, -, -, hread⟩ | ⟨-, -, hleft, -⟩ | ⟨-, _, _, hcons, -⟩ |
    ⟨-, _, _, hcons, -⟩
  · exact absurd hfull hroom
  · exact hread
  · exact absurd htmr hleft
  all_goals simp [hrxq] at hcons

theorem readBodyOnce_idle (hroom : s.rxbuf.length ≠ s.cfg.bodyMax) (hrxq : s.rxq = []) (htmr : s.tmr ≠ 0) :
    s.readBodyOnce = (.pending, { s with tmr := s.tmr - 1 }) := by
  rcases readBody_cases s with ⟨hfull, -⟩ | ⟨-, -, h0, -⟩ | ⟨-, -, -, hread⟩ | ⟨-, _, _, hcons, -⟩ |
    ⟨-, _, _, hcons, -⟩
  · exact absurd hfull hroom
  · exact absurd h0 htmr
  · exact hread
  all_goals simp [hrxq] at hcons

/-- A byte that is there is stored, and the read matches when it completes the body. -/
theorem readBodyOnce_byte {b : Byte} {more : List Byte} (hroom : s.rxbuf.length ≠ s.cfg.bodyMax)
    (hrxq : s.rxq = b :: more) :
    s.readBodyOnce = (if endsInSuffix (s.rxbuf ++ [b]) then .matched else .more,
      { s with rxq := more, rxbuf := s.rxbuf ++ [b], tmr := nRxb s.cfg }) := by
  rcases readBody_cases s with ⟨hfull, -⟩ | ⟨-, hnil, -⟩ | ⟨-, hnil, -⟩ | ⟨-, _, _, hcons, hends, hread⟩ |
    ⟨-, _, _, hcons, hends, hread⟩
  · exact absurd hfull hroom
  · simp [hrxq] at hnil
  · simp [hrxq] at hnil
  all_goals
    obtain ⟨rfl, rfl⟩ := List.cons.inj (hrxq.symm.trans hcons)
    rw [hread, hends]
    rfl

theorem readBodyOnce_done {b : Byte} {more : List Byte} (hroom : s.rxbuf.length ≠ s.cfg.bodyMax)
    (hrxq : s.rxq = b :: more) (hends : ∃ front, s.rxbuf ++ [b] = front ++ [0x10, 0x03]) :
    s.readBodyOnce = (.matched, { s with rxq := more, rxbuf := s.rxbuf ++ [b], tmr := nRxb s.cfg }) := by
  rw [readBodyOnce_byte hroom hrxq, if_pos ((endsInSuffix_iff _).mpr hends)]

theorem readBodyOnce_more {b : Byte} {more : List Byte} (hroom : s.rxbuf.length ≠ s.cfg.bodyMax)
    (hrxq : s.rxq = b :: more) (hopen : ¬∃ front, s.rxbuf ++ [b] = front ++ [0x10, 0x03]) :
    s.readBodyOnce = (.more, { s with rxq := more, rxbuf := s.rxbuf ++ [b], tmr := nRxb s.cfg }) := by
  rw [readBodyOnce_byte hroom hrxq, if_neg fun hends => hopen ((endsInSuffix_iff _).mp hends)]

theorem exec_rdBody {r : ReadResult} {t : State} (h : s.readBodyOnce = (r, t)) :
    exec .rdBody s = .next { t with res := .code r } :=
  congrArg Host.Outcome.next (attempted_eq h)

/-- Settles O16: the branches of a read of the body. -/
theorem bodyReadOneByte : Obligations.BodyReadOneByte := by
  unfold Obligations.BodyReadOneByte
  intro s b more
  exact ⟨fun hfull => exec_rdBody (readBodyOnce_full hfull),
    fun hroom hrxq htmr => exec_rdBody (readBodyOnce_expired hroom hrxq htmr),
    fun hroom hrxq htmr => exec_rdBody (readBodyOnce_idle hroom hrxq htmr),
    fun hroom hrxq hends => exec_rdBody (readBodyOnce_done hroom hrxq hends),
    fun hroom hrxq hopen => exec_rdBody (readBodyOnce_more hroom hrxq hopen)⟩

theorem exec_rdCrc {r : ReadResult} {t : State} (h : s.readCrcOnce = (r, t)) :
    exec .rdCrc s = .next { t with res := .code r } :=
  congrArg Host.Outcome.next (attempted_eq h)

theorem exec_pause {r : ReadResult} {t : State} (h : s.pauseOnce = (r, t)) :
    exec .pause s = .next { t with res := .code r } :=
  congrArg Host.Outcome.next (attempted_eq h)

/-- Settles O17: the branches of a read of the CRC and of a pause. -/
theorem crcReadAndPause : Obligations.CrcReadAndPause := by
  unfold Obligations.CrcReadAndPause
  intro s b0 b1 more
  refine ⟨fun hrxq => ?twoBytes, fun hrxq htmr => exec_rdCrc (readCrcOnce_expired hrxq htmr),
    fun hrxq htmr => exec_rdCrc (readCrcOnce_idle hrxq htmr), fun htmr => exec_pause (pauseOnce_over htmr),
    fun htmr => exec_pause (pauseOnce_left htmr)⟩
  case twoBytes =>
    rw [← crcFromWire_eq_ofNat]
    exact exec_rdCrc (readCrcOnce_two_bytes hrxq)

/-- Settles O22: what `H1_READ_BODY` makes of each answer of the read; the event's argument is the length where that
fits 16 bits. -/
theorem h1ReadBodyRule : Obligations.H1ReadBodyRule := by
  unfold Obligations.H1ReadBodyRule
  intro s b more
  simp only [exec, execH1ReadBody]
  refine ⟨fun hfull => ?full, fun hroom hrxq htmr => ?expired, fun hroom hrxq htmr => ?idle,
    fun hroom hrxq hopen => ?more, fun hroom hrxq hends => ?done⟩
  case full => rw [readBodyOnce_full hfull, ← raise_h1_malformedFrame]
  case expired => rw [readBodyOnce_expired hroom hrxq htmr, ← raise_h1_malformedFrame]
  case idle =>
    rw [readBodyOnce_idle hroom hrxq htmr]
    rfl
  case more =>
    rw [readBodyOnce_more hroom hrxq hopen]
    rfl
  case done =>
    rw [readBodyOnce_done hroom hrxq hends]
    refine ⟨bodyLenArg (s.rxbuf ++ [b]).length, fun hfits => ?_, rfl⟩
    rw [bodyLenArg, List.length_append, List.length_singleton, if_pos hfits]

end Sys2Proof.Machine
end

section
/-! The step from outside the rules: reset, the environment, the fetch, the stops and the forced codes (R28, R30, R31,
R37, R41, R49, R56, R69, R250), and the event codes (R240). -/

namespace Sys2Proof.Machine

variable {s : State}

/-- Settles O51. -/
theorem eventCodesAreTheTable : Obligations.EventCodesAreTheTable := by
  unfold Obligations.EventCodesAreTheTable
  rfl

/-! ### Reset and the environment (R30, R37, R49, R250) -/

/-- Settles O34: the environment ticks, having nothing to do, and the state of `seq` runs on the empty payload. -/
theorem resetStateThenCycleStart : Obligations.ResetStateThenCycleStart := by
  unfold Obligations.ResetStateThenCycleStart
  exact ⟨rfl, rfl, rfl, rfl, rfl, rfl, rfl, rfl, rfl, rfl, _, _, step_waiting rfl rfl rfl, rfl,
    (step_running rfl rfl rfl).trans (exec_cycleStart_of_payloadLegal rfl), rfl, rfl, rfl⟩

theorem environment_of_coming {i : Input} {rest : List Input} (h : s.coming = (i, rest)) :
    s.environment = { s with inputs := rest }.take i := by
  rw [State.environment, h]

/-- A listed action is taken off the list (log 7). -/
theorem environment_listed {i : Input} {rest : List Input} (h : s.inputs = i :: rest) :
    s.environment = { s with inputs := rest }.take i :=
  environment_of_coming (coming_listed s h)

theorem with_inputs_nil (h : s.inputs = []) : { s with inputs := [] } = s := by
  rw [← h]

/-- With nothing listed and nothing recurring the environment ticks (log 7). -/
theorem environment_tick (h : s.inputs = []) (hr : s.recurring = []) : s.environment = s.beginTick := by
  rw [environment_of_coming (coming_tick s h hr), with_inputs_nil h]
  rfl

/-- The recurring actions begin as if they were listed (log 7). -/
theorem environment_recurring {i : Input} {rest : List Input} (h : s.inputs = []) (hr : s.recurring = i :: rest) :
    s.environment = { s with inputs := i :: rest }.environment := by
  rw [environment_of_coming (coming_recurring s h hr), environment_listed rfl]

/-- Settles O35: a waiting machine's step is its environment's, and that is its next action. -/
theorem environmentActs : Obligations.EnvironmentActs := by
  unfold Obligations.EnvironmentActs
  intro s rest bytes lines hlegal hport hphase
  have hlisted {i : Input} (h : s.inputs = i :: rest) : step s = .next ({ s with inputs := rest }.take i) := by
    rw [step_waiting hlegal hport hphase, environment_listed h]
  refine ⟨fun h hr => ?silent, fun i h hr => ?recurring, hlisted, hlisted, hlisted, hlisted⟩
  case silent =>
    rw [step_waiting hlegal hport hphase, environment_tick h hr]
    rfl
  case recurring =>
    rw [step_waiting hlegal hport hphase, environment_recurring h hr]
    exact (step_waiting (s := { s with inputs := i :: rest }) hlegal hport hphase).symm

/-! ### The fetch (R28, R31) -/

/-- Settles O36: the fetched bytes are decoded and run; without a word in the port they are the code of `seq`. -/
theorem stepRunsDecodedInstruction : Obligations.StepRunsDecodedInstruction := by
  unfold Obligations.StepRunsDecodedInstruction
  constructor
  · intro s i rest hlegal hidling hdecode
    rw [step_fetching hlegal hidling, runFetched_of_decode hdecode]
    rfl
  · intro s hport
    exact ⟨fetch_of_no_port hport, decode_fetch_of_no_port hport, wellFormed_seq_instr s.seq,
      fun hlegal hphase => step_running hlegal hport hphase⟩

/-! ### Where the model stops (R41, R56, R69; log 10, 11, 15, 17, 22) -/

theorem exec_cycleStart_of_illegal (h : payloadLegal s.cfg s.src = false) :
    exec .cycleStart s = .refused .payloadOutOfBounds := by
  rcases payLoad_cases s with ⟨hlegal, -⟩ | ⟨-, hload⟩
  · simp [h] at hlegal
  · simp only [exec, execCycleStart, hload]

theorem exec_xfBuildFrame_of_no_line (h : s.pay.length ≤ s.li.toNat) :
    exec .xfBuildFrame s = .fault .lineIndexOutOfRange := by
  have hline : s.pay[s.li.toNat]? = none := List.getElem?_eq_none h
  simp only [exec, execXfBuildFrame, State.payLine, hline]

theorem idling_eq_false_of_port {w : PortWord} (hport : s.port = some w) : s.idling = false := by
  simp [State.idling, hport]

theorem fetch_of_port {w : PortWord} (hport : s.port = some w) : s.fetch = w := by
  simp [State.fetch, hport]

theorem forcedCode_of_ne {f : Format} (bytes : List Byte) (hf : f ≠ .sequencer) : forcedCode ⟨f, bytes⟩ = false := by
  cases f with
  | sequencer => exact absurd rfl hf
  | _ => rfl

/-- What is rejected in any other code space than the sequencer's is no instruction (R69 e, I9). -/
theorem resolve_rejected {f : Format} {bytes : List Byte} {why : DecodeError} (h : decode f bytes = .rejected why)
    (hf : f ≠ .sequencer) : resolve ⟨f, bytes⟩ = none := by
  simp [resolve, h, forcedCode_of_ne bytes hf]

/-- Settles O37: each stop by the test that makes it. -/
theorem whereTheModelStops : Obligations.WhereTheModelStops := by
  unfold Obligations.WhereTheModelStops
  refine ⟨fun s hcfg => ?parameters, fun s hsrc => ?payload, fun s hli => exec_xfBuildFrame_of_no_line hli,
    fun s f bytes why hlegal hport hdecode hf => ?encoding⟩
  case parameters =>
    refine step_illegal (Bool.eq_false_iff.mpr fun hlegal => hcfg ?_)
    exact (legalParams_iff s.cfg).mp hlegal
  case payload =>
    refine exec_cycleStart_of_illegal (Bool.eq_false_iff.mpr fun hlegal => hsrc ?_)
    exact (payloadLegal_iff _ _).mp hlegal
  case encoding =>
    rw [step_fetching hlegal (idling_eq_false_of_port hport), fetch_of_port hport, runFetched,
      resolve_rejected hdecode hf]

/-! ### Reserved sequencer codes (R69 d) -/

/-- A byte in the sequencer's code space that names no state runs as `CYCLE_END` (R69 d; log 21). -/
theorem step_forced {b : Byte} {rest : List Byte} (hlegal : legalParams s.cfg = true)
    (hport : s.port = some ⟨.sequencer, b :: rest⟩) (hcode : seqOfCode (b.setWidth 5) = none) :
    step s = exec .cycleEnd s.fetched := by
  have hresolve : resolve ⟨.sequencer, b :: rest⟩ = some .cycleEnd := by
    simp [resolve, decode, decodeSequencer, hcode, forcedCode]
  rw [step_fetching hlegal (idling_eq_false_of_port hport), fetch_of_port hport, runFetched, hresolve]

theorem withFetchWord_of_no_state {w : Nat} (hcode : seqOfCode (BitVec.ofNat 5 w) = none) :
    s.withFetchWord 8 w = { s with port := some ⟨.sequencer, [BitVec.ofNat 8 w]⟩ } := by
  simp [State.withFetchWord, State.placeWord, tableFormat, tableBytes, hcode]

theorem seqOfCode_reserved {w : Nat} (hlow : 0x1A ≤ w) (hhigh : w ≤ 0x1F) : seqOfCode (BitVec.ofNat 5 w) = none := by
  interval_cases w <;> rfl

theorem decodeTableWord_of_no_state {w : Nat} (hcode : seqOfCode (BitVec.ofNat 5 w) = none) :
    decodeTableWord 8 w = none := by
  have hlow : (BitVec.ofNat 8 w).setWidth 5 = BitVec.ofNat 5 w := BitVec.setWidth_ofNat_of_le (by decide) w
  simp [decodeTableWord, tableFormat, tableBytes, decode, decodeSequencer, hlow, hcode]

/-- Settles O38: the reserved codes name no state, so they go to the port and are forced. -/
theorem forcedCodeEndsCycle : Obligations.ForcedCodeEndsCycle := by
  unfold Obligations.ForcedCodeEndsCycle
  refine ⟨fun q => by cases q <;> decide, fun s w hlegal hlow hhigh => ?_⟩
  have hcode := seqOfCode_reserved hlow hhigh
  have hbyte : seqOfCode ((BitVec.ofNat 8 w).setWidth 5) = none := by
    rw [BitVec.setWidth_ofNat_of_le (by decide), hcode]
  refine ⟨decodeTableWord_of_no_state hcode, ?_⟩
  rw [withFetchWord_of_no_state hcode]
  exact step_forced hlegal rfl hbyte

end Sys2Proof.Machine
end

section
/-! What an instruction does to the streams (R35, R44, R52, R53, R58): it takes from the front of RXQ, and appends to TXS
and LOG with the current tick's stamp. -/

namespace Sys2Proof.Machine

variable {s t u : State}

/-! ### Taking input -/

/-- At most two bytes are taken from the front of RXQ, and nothing is sent or logged. -/
def State.takesInput (s t : State) : Prop :=
  (∃ n, n ≤ 2 ∧ t.rxq = s.rxq.drop n) ∧ t.txs = s.txs ∧ t.log = s.log ∧ t.ticks = s.ticks

theorem takesInput_refl (s : State) : s.takesInput s := ⟨⟨0, by omega, rfl⟩, rfl, rfl, rfl⟩

theorem takesInput_pollCtl {code : CtlCode} {r : ReadResult} (h : pollAttempt (readCtl code) s = (r, t)) :
    s.takesInput t := by
  rcases pollCtl_cases s code with ⟨-, hpoll⟩ | ⟨-, -, hpoll⟩ | ⟨-, more, hrxq, hpoll⟩ | ⟨-, b, more, hrxq, -, hpoll⟩
  all_goals cases h.symm.trans hpoll
  · exact takesInput_refl s
  · exact takesInput_refl s
  · exact ⟨⟨1, by omega, by rw [hrxq]; rfl⟩, rfl, rfl, rfl⟩
  · exact ⟨⟨1, by omega, by rw [hrxq]; rfl⟩, rfl, rfl, rfl⟩

theorem takesInput_pollAck {n : AckNo} {r : ReadResult} (h : s.waitAckOnce n = (r, t)) : s.takesInput t := by
  rcases pollAck_cases s n with ⟨-, hpoll⟩ | ⟨-, -, hpoll⟩ | ⟨-, more, hrxq, hpoll⟩ | ⟨-, a, b, more, hrxq, -, hpoll⟩
  all_goals cases h.symm.trans hpoll
  · exact takesInput_refl s
  · exact takesInput_refl s
  · exact ⟨⟨2, le_rfl, by rw [hrxq]; rfl⟩, rfl, rfl, rfl⟩
  · exact ⟨⟨2, le_rfl, by rw [hrxq]; rfl⟩, rfl, rfl, rfl⟩

theorem takesInput_pollResp {r : ReadResult} (h : s.waitRespOnce = (r, t)) : s.takesInput t := by
  rcases pollResp_cases s with ⟨-, hpoll⟩ | ⟨-, -, hpoll⟩ | ⟨-, more, hrxq, hpoll⟩ | ⟨-, b, more, hrxq, -, hpoll⟩ |
    ⟨-, a, b, more, hrxq, -, -, hpoll⟩
  all_goals cases h.symm.trans hpoll
  · exact takesInput_refl s
  · exact takesInput_refl s
  · exact ⟨⟨1, by omega, by rw [hrxq]; rfl⟩, rfl, rfl, rfl⟩
  · exact ⟨⟨2, le_rfl, by rw [hrxq]; rfl⟩, rfl, rfl, rfl⟩
  · exact ⟨⟨2, le_rfl, by rw [hrxq]; rfl⟩, rfl, rfl, rfl⟩

theorem takesInput_readBody {r : ReadResult} (h : s.readBodyOnce = (r, t)) : s.takesInput t := by
  rcases readBody_cases s with ⟨-, hread⟩ | ⟨-, -, -, hread⟩ | ⟨-, -, -, hread⟩ | ⟨-, b, more, hrxq, -, hread⟩ |
    ⟨-, b, more, hrxq, -, hread⟩
  all_goals cases h.symm.trans hread
  · exact takesInput_refl s
  · exact takesInput_refl s
  · exact takesInput_refl s
  · exact ⟨⟨1, by omega, by rw [hrxq]; rfl⟩, rfl, rfl, rfl⟩
  · exact ⟨⟨1, by omega, by rw [hrxq]; rfl⟩, rfl, rfl, rfl⟩

theorem takesInput_readCrc {r : ReadResult} (h : s.readCrcOnce = (r, t)) : s.takesInput t := by
  rcases readCrc_cases s with ⟨b0, b1, more, hrxq, hread⟩ | ⟨-, -, hread⟩ | ⟨-, -, hread⟩
  all_goals cases h.symm.trans hread
  · exact ⟨⟨2, le_rfl, by rw [hrxq]; rfl⟩, rfl, rfl, rfl⟩
  · exact takesInput_refl s
  · exact takesInput_refl s

theorem takesInput_pause {r : ReadResult} (h : s.pauseOnce = (r, t)) : s.takesInput t := by
  rcases pause_cases s with ⟨-, hpause⟩ | ⟨-, hpause⟩
  all_goals cases h.symm.trans hpause
  · exact takesInput_refl s
  · exact takesInput_refl s

/-! ### Giving output -/

/-- TXS and LOG grow at their end by entries of the current tick, and RXQ is left alone. -/
def State.givesOutput (s t : State) : Prop :=
  (∃ (bytes : List (Nat × Byte)) (events : List LogEntry), t.txs = s.txs ++ bytes ∧ t.log = s.log ++ events ∧
    (∀ p ∈ bytes, p.1 = s.now) ∧ (∀ e ∈ events, e.tick = s.now)) ∧ t.rxq = s.rxq ∧ t.ticks = s.ticks

theorem givesOutput_refl (s : State) : s.givesOutput s :=
  ⟨⟨[], [], by simp, by simp, by simp, by simp⟩, rfl, rfl⟩

theorem State.givesOutput.trans (h : s.givesOutput t) (h' : t.givesOutput u) : s.givesOutput u := by
  obtain ⟨⟨bytes, events, htxs, hlog, hbytes, hevents⟩, hrxq, hticks⟩ := h
  obtain ⟨⟨bytes', events', htxs', hlog', hbytes', hevents'⟩, hrxq', hticks'⟩ := h'
  have hnow : t.now = s.now := congrArg (· - 1) hticks
  refine ⟨⟨bytes ++ bytes', events ++ events', ?_, ?_, ?_, ?_⟩, hrxq'.trans hrxq, hticks'.trans hticks⟩
  · rw [htxs', htxs, List.append_assoc]
  · rw [hlog', hlog, List.append_assoc]
  · exact List.forall_mem_append.mpr ⟨hbytes, fun p hp => (hbytes' p hp).trans hnow⟩
  · exact List.forall_mem_append.mpr ⟨hevents, fun e he => (hevents' e he).trans hnow⟩

theorem givesOutput_txWrite (s : State) (bytes : List Byte) : s.givesOutput (s.txWrite bytes) :=
  ⟨⟨bytes.map fun b => (s.now, b), [], rfl, by simp, by simp, by simp⟩, rfl, rfl⟩

theorem givesOutput_logEvent (s : State) (ev : Event) (arg : Word) : s.givesOutput (s.logEvent ev arg) :=
  ⟨⟨[], [⟨s.now, ev, arg⟩], by simp, rfl, by simp, by simp⟩, rfl, rfl⟩

/-- Sending a token and logging it (R142, R147, R161, R166, R182). -/
theorem givesOutput_token_event (s : State) (tok : Token) (ev : Event) (arg : Word) :
    s.givesOutput ((s.sendToken tok).logEvent ev arg) :=
  (givesOutput_txWrite s (tokenBytes tok)).trans (givesOutput_logEvent _ ev arg)

theorem givesOutput_sendFrame (s : State) : s.givesOutput s.sendFrame := givesOutput_txWrite s s.txf

theorem givesOutput_sendHeader (s : State) (ident : List Byte) : s.givesOutput (s.sendHeader ident) := by
  rw [sendHeader_eq]
  exact givesOutput_txWrite s (headerFrame ident)

theorem givesOutput_raise (s : State) (x : Stage) (k : FatalKind) : s.givesOutput (s.raise x k) :=
  givesOutput_logEvent s (failEvent x) ((fatalCode k).setWidth 16)

theorem givesOutput_lineTimeout (s : State) : s.givesOutput s.lineTimeout :=
  givesOutput_logEvent s .xfLineTimeout s.li

theorem givesOutput_retransmit (s : State) : s.givesOutput s.retransmit := by
  rw [retransmit_eq]
  exact (givesOutput_logEvent s .xfLineNak s.li).trans (givesOutput_sendFrame (s.logEvent .xfLineNak s.li))

/-! ### The states that wait -/

/-- The shape of most states that wait for input: what the state makes of a match and of expiry; else it waits on. -/
def waitRule (matched expired : State → State) (p : ReadResult × State) : Host.Outcome State Fault Refusal :=
  match p with
  | (.matched, s) => .next (matched s)
  | (.expired, s) => .next (expired s)
  | (_, s) => .next s.block

/-- What H1_WAIT_EOT makes of an EOT (R148). -/
def State.gotEot (s : State) : State :=
  ({ s.logEvent .h1EotRx 0 with status := setStageOut .h1 s.status .success }.logEvent .h1Ok 0).goTo .h1Done

theorem exec_h1WaitEnq_rule (s : State) : exec .h1WaitEnq s =
    waitRule (fun u => (u.logEvent .h1EnqRx 0).goTo .h1SendAck0) (·.raise .h1 .handshakeTimeout) s.waitEnqOnce := rfl

theorem exec_h1WaitEot_rule (s : State) : exec .h1WaitEot s =
    waitRule State.gotEot (·.raise .h1 .handshakeTimeout) s.waitEotOnce := rfl

theorem exec_h1ReadCrc_rule (s : State) : exec .h1ReadCrc s =
    waitRule (fun u => (u.logEvent .h1CrcRx u.rxcrc).goTo .h1VerifyCrc) (·.raise .h1 .malformedFrame)
      s.readCrcOnce := rfl

theorem exec_h2WaitAck0_rule (s : State) : exec .h2WaitAck0 s =
    waitRule (fun u => (u.logEvent .h2Ack0Rx 0).goTo .h2SendId) (·.raise .h2 .handshakeTimeout)
      (s.waitAckOnce .ack0) := rfl

theorem exec_h2WaitAck1_rule (s : State) : exec .h2WaitAck1 s =
    waitRule (fun u => ((u.logEvent .h2Ack1Rx 0).load (nPause u.cfg)).goTo .h2Pause) (·.raise .h2 .handshakeTimeout)
      (s.waitAckOnce .ack1) := rfl

theorem exec_xfWaitAck0_rule (s : State) : exec .xfWaitAck0 s =
    waitRule (fun u => (u.logEvent .xfAck0Rx 0).goTo .xfBuildFrame) (·.raise .xf .handshakeTimeout)
      (s.waitAckOnce .ack0) := rfl

/-! ### Every instruction -/

/-- An instruction takes its input first and gives its output after it. -/
def State.serves (s t : State) : Prop := ∃ u, s.takesInput u ∧ u.givesOutput t

theorem serves_of_output (h : s.givesOutput t) : s.serves t := ⟨s, takesInput_refl s, h⟩

theorem serves_of_input (h : s.takesInput t) : s.serves t := ⟨t, h, givesOutput_refl t⟩

theorem givesOutput_gotEot (s : State) : s.givesOutput s.gotEot :=
  (givesOutput_logEvent s .h1EotRx 0).trans (givesOutput_logEvent (s.logEvent .h1EotRx 0) .h1Ok 0)

theorem serves_waitRule {matched expired : State → State} {p : ReadResult × State}
    (h : waitRule matched expired p = .next t) (hin : s.takesInput p.2)
    (hmatched : ∀ u : State, u.givesOutput (matched u)) (hexpired : ∀ u : State, u.givesOutput (expired u)) :
    s.serves t := by
  obtain ⟨r, u⟩ := p
  refine ⟨u, hin, ?_⟩
  cases r <;> cases h
  case matched => exact hmatched u
  case expired => exact hexpired u
  all_goals exact givesOutput_refl u

theorem serves_h1ReadBody (h : exec .h1ReadBody s = .next t) : s.serves t := by
  rcases hread : s.readBodyOnce with ⟨r, u⟩
  simp only [exec, execH1ReadBody, hread] at h
  refine ⟨u, takesInput_readBody hread, ?_⟩
  cases r <;> cases h
  case matched => exact givesOutput_logEvent u _ _
  case expired | overflow => exact givesOutput_raise u _ _
  all_goals exact givesOutput_refl u

/-- The three pauses give no output at all. -/
theorem serves_pause {q : Instr} (hq : q = .h1Ack0Pause ∨ q = .h1Ack1Pause ∨ q = .h2Pause) (h : exec q s = .next t) :
    s.serves t := by
  rcases hread : s.pauseOnce with ⟨r, u⟩
  refine ⟨u, takesInput_pause hread, ?_⟩
  rcases hq with rfl | rfl | rfl
  all_goals
    simp only [exec, execH1Ack0Pause, execH1Ack1Pause, execH2Pause, hread] at h
    cases r <;> cases h <;> exact givesOutput_refl u

theorem serves_xfWaitResp (h : exec .xfWaitResp s = .next t) : s.serves t := by
  rcases hread : s.waitRespOnce with ⟨r, u⟩
  simp only [exec, execXfWaitResp, hread] at h
  refine ⟨u, takesInput_pollResp hread, ?_⟩
  cases r <;> cases h
  case matched => exact givesOutput_logEvent u _ _
  case expired => exact givesOutput_lineTimeout u
  case naked => exact givesOutput_retransmit u
  all_goals exact givesOutput_refl u

/-- `H1_VERIFY_CRC` logs its verdict (R146). -/
theorem givesOutput_h1VerifyCrc (h : exec .h1VerifyCrc s = .next t) : s.givesOutput t := by
  simp only [exec, execH1VerifyCrc] at h
  split at h <;> cases h
  · exact givesOutput_logEvent (s.crcFoldOver s.rxbuf .dleSoh) _ _
  · exact givesOutput_raise (s.crcFoldOver s.rxbuf .dleSoh) _ _

theorem givesOutput_xfNextLine (h : exec .xfNextLine s = .next t) : s.givesOutput t := by
  simp only [exec, execXfNextLine] at h
  repeat' split at h
  all_goals cases h
  · exact givesOutput_logEvent s _ _
  · exact givesOutput_refl s
  · exact givesOutput_refl s

theorem givesOutput_h1SendAck1 (h : exec .h1SendAck1 s = .next t) : s.givesOutput t := by
  simp only [exec, execH1SendAck1] at h
  split at h <;> cases h
  all_goals exact givesOutput_token_event s _ _ _

/-- `CYCLE_START` clears RXQ and logs the start (R201). -/
theorem cycleStart_streams (h : exec .cycleStart s = .next t) :
    t.rxq = [] ∧ t.txs = s.txs ∧ t.log = s.log ++ [⟨s.now, .cycleStart, 0⟩] := by
  rcases payLoad_cases s with ⟨hlegal, -⟩ | ⟨hillegal, -⟩
  · rw [exec_cycleStart_of_payloadLegal hlegal] at h
    cases h
    exact ⟨rfl, rfl, rfl⟩
  · rw [exec_cycleStart_of_illegal hillegal] at h
    cases h

theorem exec_attempted {p : ReadResult × State} (h : Host.Outcome.next (φ := Fault) (ρ := Refusal) (State.attempted p) = .next t)
    (htakes : s.takesInput p.2) : s.serves t := by
  cases h
  exact serves_of_input htakes

/-- Every instruction but `CYCLE_START` takes at most two bytes and then gives its output. -/
theorem serves_of_exec {i : Instr} (h : exec i s = .next t) (hi : i ≠ .cycleStart) : s.serves t := by
  cases i with
  | cycleStart => exact absurd rfl hi
  | h1WaitEnq =>
    rw [exec_h1WaitEnq_rule] at h
    exact serves_waitRule h (takesInput_pollCtl rfl) (fun u => givesOutput_logEvent u _ _)
      (fun u => givesOutput_raise u _ _)
  | h1WaitEot =>
    rw [exec_h1WaitEot_rule] at h
    exact serves_waitRule h (takesInput_pollCtl rfl) givesOutput_gotEot (fun u => givesOutput_raise u _ _)
  | h1ReadCrc =>
    rw [exec_h1ReadCrc_rule] at h
    exact serves_waitRule h (takesInput_readCrc rfl) (fun u => givesOutput_logEvent u _ _)
      (fun u => givesOutput_raise u _ _)
  | h2WaitAck0 | h2WaitAck1 | xfWaitAck0 =>
    simp only [exec_h2WaitAck0_rule, exec_h2WaitAck1_rule, exec_xfWaitAck0_rule] at h
    exact serves_waitRule h (takesInput_pollAck rfl) (fun u => givesOutput_logEvent u _ _)
      (fun u => givesOutput_raise u _ _)
  | h1ReadBody => exact serves_h1ReadBody h
  | h1Ack0Pause | h1Ack1Pause | h2Pause => exact serves_pause (by decide) h
  | xfWaitResp => exact serves_xfWaitResp h
  | h1VerifyCrc => exact serves_of_output (givesOutput_h1VerifyCrc h)
  | h1SendAck1 => exact serves_of_output (givesOutput_h1SendAck1 h)
  | xfNextLine => exact serves_of_output (givesOutput_xfNextLine h)
  | h1Done | h2Done =>
    simp only [exec, execH1Done, execH2Done] at h
    split at h <;> cases h <;> exact serves_of_output (givesOutput_refl s)
  | xfBuildFrame =>
    simp only [exec, execXfBuildFrame] at h
    split at h <;> cases h
    exact serves_of_output (givesOutput_refl s)
  | waitEnq | waitEot => exact exec_attempted h (takesInput_pollCtl rfl)
  | waitAck => exact exec_attempted h (takesInput_pollAck rfl)
  | waitResp => exact exec_attempted h (takesInput_pollResp rfl)
  | rdBody => exact exec_attempted h (takesInput_readBody rfl)
  | rdCrc => exact exec_attempted h (takesInput_readCrc rfl)
  | pause => exact exec_attempted h (takesInput_pause rfl)
  | h1SendAck0 | h2SendEnq | xfSendEnq =>
    cases h
    exact serves_of_output (givesOutput_token_event s _ _ _)
  | h2SendEot =>
    cases h
    exact serves_of_output ((givesOutput_token_event s .eot .h2EotTx 0).trans
      (givesOutput_logEvent ((s.sendToken .eot).logEvent .h2EotTx 0) _ _))
  | h2SendId =>
    cases h
    exact serves_of_output ((givesOutput_sendHeader s idBytes).trans (givesOutput_logEvent (s.sendHeader idBytes) _ _))
  | xfSendFrame =>
    cases h
    exact serves_of_output ((givesOutput_sendFrame s).trans (givesOutput_logEvent s.sendFrame _ _))
  | cycleEnd =>
    cases h
    exact serves_of_output (givesOutput_logEvent s _ _)
  | hf | txFrame | txCtl | dfEtb | dfEtx =>
    cases h
    exact serves_of_output (givesOutput_txWrite _ _)
  | _ =>
    cases h
    exact serves_of_output (givesOutput_refl s)

/-- Settles O54: `serves_of_exec` for all instructions but the one that clears RXQ. -/
theorem inputQueueReadAtFront : Obligations.InputQueueReadAtFront := by
  unfold Obligations.InputQueueReadAtFront
  intro i s t h
  by_cases hi : i = .cycleStart
  · subst hi
    exact .inr ⟨rfl, (cycleStart_streams h).1⟩
  · obtain ⟨u, ⟨⟨n, hn, hrxq⟩, -⟩, -, hkept, -⟩ := serves_of_exec h hi
    exact .inl ⟨n, hn, hkept.trans hrxq⟩

/-- What an instruction appends to the output streams, with stamps of the current tick (R53, R58). -/
theorem exec_appends {i : Instr} (h : exec i s = .next t) :
    ∃ (bytes : List (Nat × Byte)) (events : List LogEntry), t.txs = s.txs ++ bytes ∧ t.log = s.log ++ events ∧
      (∀ p ∈ bytes, p.1 = s.now) ∧ (∀ e ∈ events, e.tick = s.now) := by
  by_cases hi : i = .cycleStart
  · subst hi
    obtain ⟨-, htxs, hlog⟩ := cycleStart_streams h
    exact ⟨[], _, by simpa using htxs, hlog, by simp, by simp⟩
  · obtain ⟨u, ⟨-, htxs, hlog, hticks⟩, ⟨bytes, events, htxs', hlog', hbytes, hevents⟩, -⟩ := serves_of_exec h hi
    have hnow : u.now = s.now := congrArg (· - 1) hticks
    rw [htxs, hlog] at *
    rw [hnow] at hbytes hevents
    exact ⟨bytes, events, htxs', hlog', hbytes, hevents⟩

theorem environment_txs (s : State) : s.environment.txs = s.txs := by
  rcases environment_eq s with ⟨_, _, _, _, _, _, h⟩ | ⟨_, h⟩
  all_goals exact (congrArg State.txs h :)

theorem environment_log (s : State) : s.environment.log = s.log := by
  rcases environment_eq s with ⟨_, _, _, _, _, _, h⟩ | ⟨_, h⟩
  all_goals exact (congrArg State.log h :)

/-- Any step is the environment's or runs one instruction, from the port or of `seq` (R31). -/
theorem step_environment_or_exec (h : step s = .next t) : t = s.environment ∨ ∃ i, exec i s.fetched = .next t := by
  have hlegal := legalParams_of_step h
  cases hidling : s.idling with
  | true =>
    rw [step_idling hlegal hidling] at h
    cases h
    exact .inl rfl
  | false =>
    rw [step_fetching hlegal hidling, runFetched] at h
    split at h
    case h_1 i _ => exact .inr ⟨i, h⟩
    case h_2 => cases h

/-- Settles O53: the environment appends nothing, an instruction by `exec_appends`. -/
theorem outputStreamsOnlyGrow : Obligations.OutputStreamsOnlyGrow := by
  unfold Obligations.OutputStreamsOnlyGrow
  intro s t h
  rcases step_environment_or_exec h with rfl | ⟨i, hexec⟩
  · exact ⟨[], [], by rw [environment_txs, List.append_nil], by rw [environment_log, List.append_nil], by simp, by simp⟩
  · exact exec_appends (s := s.fetched) hexec

end Sys2Proof.Machine
end

section
/-! The log is an output only (R241): no operation's answer, and no field it leaves but the log, depends on the log. -/

namespace Sys2Proof.Machine

/-- The state with another log. -/
def State.withLog (s : State) (l : List LogEntry) : State := { s with log := l }

/-- An outcome with another log in its next state. -/
def relog (l : List LogEntry) : Host.Outcome State Fault Refusal → Host.Outcome State Fault Refusal
  | .next t => .next (t.withLog l)
  | .fault f => .fault f
  | .refused r => .refused r

/-- An attempt answers the same whatever the log is, and leaves the log as it was. -/
def ignoresLog (attempt : State → ReadResult × State) : Prop :=
  ∀ (s : State) (l : List LogEntry), attempt (s.withLog l) = ((attempt s).1, (attempt s).2.withLog l)

/-- An operation may write the log, and does the same to the other fields whatever the log is. -/
def onlyWritesLog (f : State → State) : Prop :=
  ∀ (s : State) (l : List LogEntry), ∃ l', f (s.withLog l) = (f s).withLog l'

/-! ### The attempts (R120 to R127)

The conditions of an attempt's branches do not mention the log, so with another log it takes the same branch. -/

theorem ignoresLog_pollCtl (code : CtlCode) : ignoresLog (pollAttempt (readCtl code)) := by
  intro s l
  rcases pollCtl_cases s code with ⟨htmr, h⟩ | ⟨htmr, hrxq, h⟩ | ⟨htmr, more, hrxq, h⟩ | ⟨htmr, b, more, hrxq, hb, h⟩
  all_goals rw [h]
  · exact pollCtl_expired (s := s.withLog l) htmr
  · exact pollCtl_nothing (s := s.withLog l) htmr hrxq
  · exact pollCtl_awaited (s := s.withLog l) htmr hrxq
  · exact pollCtl_other (s := s.withLog l) htmr hrxq hb

theorem ignoresLog_pollAck (n : AckNo) : ignoresLog (pollAttempt (readAck n)) := by
  intro s l
  rcases pollAck_cases s n with ⟨htmr, h⟩ | ⟨htmr, hrxq, h⟩ | ⟨htmr, more, hrxq, h⟩ | ⟨htmr, a, b, more, hrxq, hab, h⟩
  all_goals rw [h]
  · exact waitAckOnce_expired (s := s.withLog l) htmr
  · exact waitAckOnce_short (s := s.withLog l) htmr hrxq
  · exact waitAckOnce_awaited (s := s.withLog l) htmr hrxq
  · exact waitAckOnce_other (s := s.withLog l) htmr hrxq hab

theorem ignoresLog_waitRespOnce : ignoresLog State.waitRespOnce := by
  intro s l
  unfold State.waitRespOnce
  rcases pollResp_cases s with ⟨htmr, h⟩ | ⟨htmr, hrxq, h⟩ | ⟨htmr, more, hrxq, h⟩ | ⟨htmr, b, more, hrxq, hb, h⟩ |
    ⟨htmr, a, b, more, hrxq, ha, hab, h⟩
  all_goals rw [h]
  · exact waitRespOnce_expired (s := s.withLog l) htmr
  · exact waitRespOnce_short (s := s.withLog l) htmr hrxq
  · exact waitRespOnce_nak (s := s.withLog l) htmr hrxq
  · exact waitRespOnce_ack (s := s.withLog l) htmr hrxq hb
  · exact waitRespOnce_noise (s := s.withLog l) htmr hrxq ha hab

theorem ignoresLog_readBodyOnce : ignoresLog State.readBodyOnce := by
  intro s l
  rcases readBody_cases s with ⟨hfull, h⟩ | ⟨hroom, hrxq, htmr, h⟩ | ⟨hroom, hrxq, htmr, h⟩ |
    ⟨hroom, b, more, hrxq, hends, h⟩ | ⟨hroom, b, more, hrxq, hends, h⟩
  all_goals rw [h]
  · exact readBodyOnce_full (s := s.withLog l) hfull
  · exact readBodyOnce_expired (s := s.withLog l) hroom hrxq htmr
  · exact readBodyOnce_idle (s := s.withLog l) hroom hrxq htmr
  · exact (readBodyOnce_byte (s := s.withLog l) hroom hrxq).trans (congrArg (·, _) (if_pos hends))
  · exact (readBodyOnce_byte (s := s.withLog l) hroom hrxq).trans (congrArg (·, _) (if_neg (Bool.eq_false_iff.mp hends)))

theorem ignoresLog_readCrcOnce : ignoresLog State.readCrcOnce := by
  intro s l
  rcases readCrc_cases s with ⟨b0, b1, more, hrxq, h⟩ | ⟨hrxq, htmr, h⟩ | ⟨hrxq, htmr, h⟩
  all_goals rw [h]
  · exact readCrcOnce_two_bytes (s := s.withLog l) hrxq
  · exact readCrcOnce_expired (s := s.withLog l) hrxq htmr
  · exact readCrcOnce_idle (s := s.withLog l) hrxq htmr

theorem ignoresLog_pauseOnce : ignoresLog State.pauseOnce := by
  intro s l
  rcases pause_cases s with ⟨htmr, h⟩ | ⟨htmr, h⟩
  all_goals rw [h]
  · exact pauseOnce_over (s := s.withLog l) htmr
  · exact pauseOnce_left (s := s.withLog l) htmr

/-! ### The instructions -/

/-- A state that waits, by its shape. -/
theorem relog_waitRule {matched expired : State → State} {attempt : State → ReadResult × State}
    (hattempt : ignoresLog attempt) (hmatched : onlyWritesLog matched) (hexpired : onlyWritesLog expired) (s : State)
    (l : List LogEntry) :
    ∃ l', waitRule matched expired (attempt (s.withLog l)) = relog l' (waitRule matched expired (attempt s)) := by
  rw [hattempt]
  obtain ⟨r, u⟩ := attempt s
  cases r
  case matched =>
    obtain ⟨l', h⟩ := hmatched u l
    exact ⟨l', congrArg Host.Outcome.next h⟩
  case expired =>
    obtain ⟨l', h⟩ := hexpired u l
    exact ⟨l', congrArg Host.Outcome.next h⟩
  all_goals exact ⟨l, rfl⟩

theorem onlyWritesLog_raise (x : Stage) (k : FatalKind) : onlyWritesLog (·.raise x k) := fun _ _ => ⟨_, rfl⟩

theorem onlyWritesLog_retransmit : onlyWritesLog State.retransmit := fun s l => by
  simp only [retransmit_eq]
  exact ⟨_, rfl⟩

theorem sendHeader_withLog (ident : List Byte) (s : State) (l : List LogEntry) :
    (s.withLog l).sendHeader ident = (s.sendHeader ident).withLog l := by
  simp only [sendHeader_eq, State.withLog, State.now]

/-- An attempt run as an instruction leaves its answer, which the log has no part in (log 6). -/
theorem relog_attempted {attempt : State → ReadResult × State} (hattempt : ignoresLog attempt) (s : State)
    (l : List LogEntry) :
    ∃ l', Host.Outcome.next (State.attempted (attempt (s.withLog l)))
      = relog l' (.next (State.attempted (attempt s))) := by
  rw [hattempt]
  exact ⟨l, rfl⟩

theorem relog_h1ReadBody (s : State) (l : List LogEntry) :
    ∃ l', exec .h1ReadBody (s.withLog l) = relog l' (exec .h1ReadBody s) := by
  simp only [exec, execH1ReadBody, ignoresLog_readBodyOnce s l]
  obtain ⟨r, u⟩ := s.readBodyOnce
  cases r <;> exact ⟨_, rfl⟩

/-- The three pauses. -/
theorem relog_pause {q : Instr} (hq : q = .h1Ack0Pause ∨ q = .h1Ack1Pause ∨ q = .h2Pause) (s : State)
    (l : List LogEntry) : ∃ l', exec q (s.withLog l) = relog l' (exec q s) := by
  rcases hq with rfl | rfl | rfl
  all_goals
    simp only [exec, execH1Ack0Pause, execH1Ack1Pause, execH2Pause, ignoresLog_pauseOnce s l]
    obtain ⟨r, u⟩ := s.pauseOnce
    cases r <;> exact ⟨_, rfl⟩

theorem relog_xfWaitResp (s : State) (l : List LogEntry) :
    ∃ l', exec .xfWaitResp (s.withLog l) = relog l' (exec .xfWaitResp s) := by
  simp only [exec, execXfWaitResp, ignoresLog_waitRespOnce s l]
  obtain ⟨r, u⟩ := s.waitRespOnce
  cases r
  case naked =>
    obtain ⟨l', h⟩ := onlyWritesLog_retransmit u l
    exact ⟨l', congrArg Host.Outcome.next h⟩
  all_goals exact ⟨_, rfl⟩

/-- A branch on a condition that the log has no part in. -/
theorem relog_ite {c : Prop} [Decidable c] {a b a' b' : Host.Outcome State Fault Refusal}
    (ha : ∃ l', a' = relog l' a) (hb : ∃ l', b' = relog l' b) :
    ∃ l', (if c then a' else b') = relog l' (if c then a else b) := by
  by_cases h : c
  · simpa only [if_pos h] using ha
  · simpa only [if_neg h] using hb

theorem relog_cycleStart (s : State) (l : List LogEntry) :
    ∃ l', exec .cycleStart (s.withLog l) = relog l' (exec .cycleStart s) := by
  have hload : (s.withLog l).payLoad = s.payLoad := rfl
  simp only [exec, execCycleStart, hload]
  rcases s.payLoad with _ | lines
  · exact ⟨l, rfl⟩
  · exact ⟨_, rfl⟩

theorem relog_xfBuildFrame (s : State) (l : List LogEntry) :
    ∃ l', exec .xfBuildFrame (s.withLog l) = relog l' (exec .xfBuildFrame s) := by
  have hline : (s.withLog l).payLine = s.payLine := rfl
  simp only [exec, execXfBuildFrame, hline]
  rcases s.payLine with _ | line
  · exact ⟨l, rfl⟩
  · exact ⟨_, rfl⟩

/-- No instruction reads the log: with another log it has the same outcome but for the log it leaves (R241). -/
theorem exec_withLog (i : Instr) (s : State) (l : List LogEntry) :
    ∃ l', exec i (s.withLog l) = relog l' (exec i s) := by
  cases i with
  | h1WaitEnq =>
    rw [exec_h1WaitEnq_rule, exec_h1WaitEnq_rule]
    exact relog_waitRule (ignoresLog_pollCtl .enq) (fun _ _ => ⟨_, rfl⟩) (onlyWritesLog_raise _ _) s l
  | h1WaitEot =>
    rw [exec_h1WaitEot_rule, exec_h1WaitEot_rule]
    exact relog_waitRule (ignoresLog_pollCtl .eot) (fun _ _ => ⟨_, rfl⟩) (onlyWritesLog_raise _ _) s l
  | h1ReadCrc =>
    rw [exec_h1ReadCrc_rule, exec_h1ReadCrc_rule]
    exact relog_waitRule ignoresLog_readCrcOnce (fun _ _ => ⟨_, rfl⟩) (onlyWritesLog_raise _ _) s l
  | h2WaitAck0 | xfWaitAck0 =>
    simp only [exec_h2WaitAck0_rule, exec_xfWaitAck0_rule]
    exact relog_waitRule (ignoresLog_pollAck .ack0) (fun _ _ => ⟨_, rfl⟩) (onlyWritesLog_raise _ _) s l
  | h2WaitAck1 =>
    rw [exec_h2WaitAck1_rule, exec_h2WaitAck1_rule]
    exact relog_waitRule (ignoresLog_pollAck .ack1) (fun _ _ => ⟨_, rfl⟩) (onlyWritesLog_raise _ _) s l
  | h1ReadBody => exact relog_h1ReadBody s l
  | h1Ack0Pause | h1Ack1Pause | h2Pause => exact relog_pause (by decide) s l
  | xfWaitResp => exact relog_xfWaitResp s l
  | cycleStart => exact relog_cycleStart s l
  | xfBuildFrame => exact relog_xfBuildFrame s l
  | h1VerifyCrc | h1SendAck1 | h1Done | h2Done => exact relog_ite ⟨_, rfl⟩ ⟨_, rfl⟩
  | xfNextLine => exact relog_ite ⟨_, rfl⟩ (relog_ite ⟨_, rfl⟩ ⟨_, rfl⟩)
  | waitEnq => exact relog_attempted (ignoresLog_pollCtl .enq) s l
  | waitEot => exact relog_attempted (ignoresLog_pollCtl .eot) s l
  | waitAck n => exact relog_attempted (ignoresLog_pollAck n) s l
  | waitResp => exact relog_attempted ignoresLog_waitRespOnce s l
  | rdBody => exact relog_attempted ignoresLog_readBodyOnce s l
  | rdCrc => exact relog_attempted ignoresLog_readCrcOnce s l
  | pause => exact relog_attempted ignoresLog_pauseOnce s l
  | hf ident =>
    rw [exec_hf, exec_hf, sendHeader_withLog]
    exact ⟨l, rfl⟩
  | h2SendId =>
    rw [exec_h2SendId, exec_h2SendId]
    exact ⟨_, rfl⟩
  | _ => exact ⟨_, rfl⟩

/-- Settles O52. -/
theorem logIsOutputOnly : Obligations.LogIsOutputOnly := by
  unfold Obligations.LogIsOutputOnly
  intro i s t l h
  obtain ⟨l', hrelog⟩ := exec_withLog i s l
  rw [h] at hrelog
  exact ⟨l', hrelog⟩

end Sys2Proof.Machine
end

section
/-! Runs inside one tick (R31, R222, R227, R228): from a fatal error to the next cycle, and from any state to the next
wait. -/

namespace Sys2Proof.Machine

variable {s t : State}

/-- A step inside a tick begins a run with the rule of `seq` (R31). -/
theorem run_exec (hlegal : legalParams s.cfg = true) (hport : s.port = none) (hphase : s.phase = .running)
    (h : exec s.seq.instr s = .next t) (n : Nat) : Host.Core.run core (n + 1) s = Host.Core.run core n t :=
  run_succ ((step_running hlegal hport hphase).trans h) n

/-- The state that `CYCLE_END` leaves (R203). -/
def State.cycleEnded (s : State) : State := { s with
  log := s.log ++ [⟨s.ticks - 1, .cycleEnd, s.status⟩], seq := .cycleStart, phase := .running }

/-- The state that `CYCLE_START` leaves, for a payload within the bounds of R56 (R201). -/
def State.cycleStarted (s : State) : State := { s with
  rxq := [], pay := s.src, crc := 0, rxcrc := 0, rxbuf := [], txf := [], li := 0, status := 0, skipped := 0
  log := s.log ++ [⟨s.now, .cycleStart, 0⟩], tmr := nEnq s.cfg, seq := .h1WaitEnq, phase := .running }

theorem run_cycleEnd (hlegal : legalParams s.cfg = true) (hport : s.port = none) (hphase : s.phase = .running)
    (hseq : s.seq = .cycleEnd) (n : Nat) :
    Host.Core.run core (n + 1) s = Host.Core.run core n s.cycleEnded :=
  run_exec hlegal hport hphase (by rw [hseq]; exact exec_cycleEnd s) n

theorem run_cycleStart (hlegal : legalParams s.cfg = true) (hport : s.port = none) (hphase : s.phase = .running)
    (hseq : s.seq = .cycleStart) (hpayload : payloadLegal s.cfg s.src = true) (n : Nat) :
    Host.Core.run core (n + 1) s = Host.Core.run core n s.cycleStarted :=
  run_exec hlegal hport hphase (by rw [hseq]; exact exec_cycleStart_of_payloadLegal hpayload) n

/-! ### After a fatal error (R222, R227, R228) -/

theorem stageOut_setStageOut (x : Stage) (st : Word) (o : StageOutcome) :
    stageOut x (setStageOut x st o) = outcomeCode o := by
  cases x with
  | h1 => exact h1Out_setH1Out _ _
  | h2 => exact h2Out_setH2Out _ _
  | xf => exact xfOut_setXfOut _ _

theorem outcomeCode_fatal_ne_success (k : FatalKind) : outcomeCode (fatalOutcome k) ≠ outcomeCode .success := by
  cases k <;> decide

/-- A stage's DONE state ends the cycle when the stage did not succeed (R149, R167, R189). -/
theorem exec_doneState_of_failed {x : Stage} (h : stageOut x s.status ≠ outcomeCode .success) :
    exec (doneState x).instr s = .next (s.goTo .cycleEnd) := by
  cases x with
  | h1 => exact if_neg fun hok => h (eq_of_beq hok)
  | h2 => exact if_neg fun hok => h (eq_of_beq hok)
  | xf => rfl

theorem exec_doneState_of_raise (s : State) (x : Stage) (k : FatalKind) :
    exec (s.raise x k).seq.instr (s.raise x k) = .next ((s.raise x k).goTo .cycleEnd) := by
  apply exec_doneState_of_failed
  rw [State.raise_status, stageOut_setStageOut]
  exact outcomeCode_fatal_ne_success k

/-- Settles O55: the DONE state, `CYCLE_END` and `CYCLE_START` run one after the other. -/
theorem fatalErrorRestartsCycle : Obligations.FatalErrorRestartsCycle := by
  unfold Obligations.FatalErrorRestartsCycle
  intro s x k hlegal hport hpayload
  have hdone := run_exec (s := s.raise x k) hlegal hport rfl (exec_doneState_of_raise s x k) 2
  have hend := run_cycleEnd (s := (s.raise x k).goTo .cycleEnd) hlegal hport rfl rfl 1
  have hstart := run_cycleStart (s := ((s.raise x k).goTo .cycleEnd).cycleEnded) hlegal hport rfl rfl hpayload 0
  exact ⟨_, (hdone.trans hend).trans hstart, rfl, rfl, rfl, rfl, rfl, rfl, rfl, rfl, rfl, rfl, rfl, rfl, rfl, rfl⟩

/-! ### The end of every tick (R31) -/

/-- What a tick needs to end: the invariant that rules the fault out, and a payload that a cycle may load. -/
def State.canRun (s : State) : Prop :=
  legalParams s.cfg = true ∧ s.undisturbed ∧ s.lineIndexFits ∧ payloadLegal s.cfg s.src = true

/-- No branch of a rule changes the payload source (R205). -/
theorem transition_src (tr : Transition s t) : t.src = s.src := by cases tr <;> rfl

/-- A rule runs inside one tick (R31). -/
theorem transition_ticks (tr : Transition s t) : t.ticks = s.ticks := by cases tr <;> rfl

theorem transition_keeps_canRun (h : s.canRun) (tr : Transition s t) : t.canRun := by
  obtain ⟨hlegal, hport, hline, hpayload⟩ := h
  refine ⟨?_, (transition_port tr).trans hport, transition_keeps_lineIndexFits hlegal hline tr, ?_⟩
  · rw [transition_cfg tr, hlegal]
  · rw [transition_cfg tr, transition_src tr, hpayload]

/-- Neither stop is met: a rule answers next (R41, R56). -/
theorem exists_transition (h : s.canRun) : ∃ t, exec s.seq.instr s = .next t ∧ Transition s t := by
  obtain ⟨-, -, ⟨-, -, -, hinside⟩, hpayload⟩ := h
  rcases exec_seq_cases s with hnext | ⟨-, hillegal, -⟩ | ⟨hseq, houtside, -⟩
  · exact hnext
  · simp [hpayload] at hillegal
  · exact absurd (hinside (by rw [hseq]; rfl)) (Nat.not_lt.mpr houtside)

/-- The states in the order of a cycle, the last one lowest; only the next line of a transfer goes up in it. -/
def rank : Seq → Nat
  | .cycleStart => 0
  | .cycleEnd => 1
  | .xfDone => 2
  | .xfWaitResp => 3
  | .xfSendFrame => 4
  | .xfBuildFrame => 5
  | .xfWaitAck0 => 6
  | .xfSendEnq => 7
  | .xfNextLine => 8
  | .h2Done => 9
  | .h2SendEot => 10
  | .h2Pause => 11
  | .h2WaitAck1 => 12
  | .h2SendId => 13
  | .h2WaitAck0 => 14
  | .h2SendEnq => 15
  | .h1Done => 16
  | .h1WaitEot => 17
  | .h1Ack1Pause => 18
  | .h1SendAck1 => 19
  | .h1VerifyCrc => 20
  | .h1ReadCrc => 21
  | .h1ReadBody => 22
  | .h1Ack0Pause => 23
  | .h1SendAck0 => 24
  | .h1WaitEnq => 25

/-- The work left in a tick before the next `CYCLE_START`: the states ahead, six more of them for each line that is
left, and the bytes that may still be read. -/
def State.work (s : State) : Nat := rank s.seq + 6 * (s.pay.length - s.li.toNat) + s.rxq.length

/-- A branch that goes on inside the tick leaves less work, but for the start of a cycle. -/
theorem work_lt_of_transition (h : s.canRun) (hseq : s.seq ≠ .cycleStart) (tr : Transition s t)
    (hphase : t.phase = .running) : t.work < s.work := by
  obtain ⟨hlegal, -, ⟨hlines, -, -, hinside⟩, -⟩ := h
  cases tr with
  | cycleStart hstart => exact absurd hstart hseq
  | wait | lineNak => cases hphase
  | lineAck _ _ hwait _ hrxq =>
    obtain ⟨-, -, -, -, -, -, hmax, -⟩ := (legalParams_iff _).mp hlegal
    have hlast : s.li.toNat < s.pay.length := hinside (by rw [hwait]; rfl)
    have hnext := toNat_add_one_of_lt hlast (hlines.trans hmax)
    simp only [State.work, hwait, rank, hrxq, hnext, List.length_cons]
    omega
  | lineTimeout hwait =>
    obtain ⟨-, -, -, -, -, -, hmax, -⟩ := (legalParams_iff _).mp hlegal
    have hlast : s.li.toNat < s.pay.length := hinside (by rw [hwait]; rfl)
    have hnext := toNat_add_one_of_lt hlast (hlines.trans hmax)
    simp only [State.work, hwait, rank, hnext]
    omega
  | bodyByte _ _ hread _ hrxq =>
    simp only [State.work, hrxq, List.length_cons]
    omega
  | expire x _ hwait =>
    rcases hwait with ⟨hwait, rfl⟩ | ⟨hwait, rfl⟩ | ⟨hwait, rfl⟩ | ⟨hwait, rfl⟩ | ⟨hwait, rfl⟩
    all_goals simp [State.work, hwait, doneState, rank]
  | malformed hread =>
    rcases hread with ⟨hread, -⟩ | ⟨hread | hread, -⟩
    all_goals simp [State.work, hread, doneState, rank]
  | gotEnq _ hread _ hrxq | gotEot _ hread _ hrxq | bodyDone _ _ hread _ hrxq | crcRead _ _ _ hread hrxq
  | h2GotAck0 _ hread _ hrxq | h2GotAck1 _ hread _ hrxq | xfGotAck0 _ hread _ hrxq =>
    simp only [State.work, hread, hrxq, rank, List.length_cons]
    omega
  | _ => simp [State.work, *, doneState, rank]

/-- `N_ENQ` is at least 6000 in every legal configuration (R9). -/
theorem nEnq_ne_zero {p : Params} (h : legalParams p = true) : nEnq p ≠ 0 := by
  obtain ⟨hpos, hdvd, -⟩ := (legalParams_iff p).mp h
  have hle : p.tPollMs ≤ 50 := Nat.le_of_dvd (by omega) hdvd
  have hmany : 0 < 300000 / p.tPollMs := Nat.div_pos (by omega) hpos
  intro hzero
  have htoNat := toNat_nEnq p
  rw [hzero] at htoNat
  simp at htoNat
  omega

/-- `H1_WAIT_ENQ` blocks when nothing is there to read and time is left (R121). -/
theorem exec_h1WaitEnq_blocks (htmr : s.tmr ≠ 0) (hrxq : s.rxq = []) :
    exec .h1WaitEnq s = .next { s with tmr := s.tmr - 1, phase := .waiting } := by
  rw [exec_h1WaitEnq_rule, State.waitEnqOnce, pollCtl_nothing htmr hrxq]
  rfl

/-- A cycle that starts empties RXQ, so its first wait ends the tick (R201). -/
theorem tick_ends_at_cycleStart (h : s.canRun) (hphase : s.phase = .running) (hseq : s.seq = .cycleStart) :
    ∃ t, Host.Core.run core 2 s = .next t ∧ t.phase = .waiting ∧ t.ticks = s.ticks := by
  obtain ⟨hlegal, hport, -, hpayload⟩ := h
  have hstart := run_cycleStart hlegal hport hphase hseq hpayload 1
  have hblock := exec_h1WaitEnq_blocks (s := s.cycleStarted) (nEnq_ne_zero hlegal) rfl
  have hwait := run_exec (s := s.cycleStarted) hlegal hport rfl hblock 0
  exact ⟨_, hstart.trans hwait, rfl, rfl⟩

/-- The engine comes to wait within the tick: by induction on the work that is left in it. -/
theorem tick_ends (h : s.canRun) (hphase : s.phase = .running) :
    ∃ n t, Host.Core.run core n s = .next t ∧ t.phase = .waiting ∧ t.ticks = s.ticks := by
  induction hwork : s.work using Nat.strong_induction_on generalizing s with
  | _ w ih =>
    by_cases hseq : s.seq = .cycleStart
    · exact ⟨2, tick_ends_at_cycleStart h hphase hseq⟩
    · obtain ⟨t, hexec, tr⟩ := exists_transition h
      have ⟨hlegal, hport, _⟩ := h
      have hrun := run_exec hlegal hport hphase hexec
      cases hphase' : t.phase with
      | waiting => exact ⟨1, t, hrun 0, hphase', transition_ticks tr⟩
      | running =>
        have hless := work_lt_of_transition h hseq tr hphase'
        obtain ⟨n, u, hrun', hwaiting, hticks⟩ := ih t.work (hwork ▸ hless) (transition_keeps_canRun h tr) hphase' rfl
        exact ⟨n + 1, u, (hrun n).trans hrun', hwaiting, hticks.trans (transition_ticks tr)⟩

/-- Settles O50. -/
theorem everyTickEnds : Obligations.EveryTickEnds := by
  unfold Obligations.EveryTickEnds
  intro s hlegal hport hphase hline hpayload
  exact tick_ends ⟨hlegal, hport, hline, hpayload⟩ hphase

end Sys2Proof.Machine
end

section
/-! The polled waits over several ticks (R68, R120, R187, R221): with a silent peer, and with one token on the line. -/

namespace Sys2Proof.Machine

variable {s t u : State}

/-! ### A silent peer (R120; log 7) -/

/-- A tick of an environment with nothing listed and nothing recurring begins a run (log 7). -/
theorem run_tick (hlegal : legalParams s.cfg = true) (hport : s.port = none) (hphase : s.phase = .waiting)
    (hinputs : s.inputs = []) (hrecurring : s.recurring = []) (n : Nat) :
    Host.Core.run core (n + 1) s = Host.Core.run core n s.beginTick := by
  rw [← environment_tick hinputs hrecurring]
  exact run_succ (step_waiting hlegal hport hphase) n

/-- A state that, with nothing to read, counts its timer down a tick at a time and at 0 goes on to `expired` (R120). -/
def countsDown (q : Seq) (expired : State → State) : Prop :=
  ∀ u : State, (u.tmr = 0 → exec q.instr u = .next (expired u)) ∧
    (u.tmr ≠ 0 → u.rxq = [] → exec q.instr u = .next { u with tmr := u.tmr - 1, phase := .waiting })

theorem countsDown_of_waitRule {q : Seq} {matched expired : State → State} {attempt : State → ReadResult × State}
    (hrule : ∀ u, exec q.instr u = waitRule matched expired (attempt u))
    (hexpired : ∀ u : State, u.tmr = 0 → attempt u = (.expired, u))
    (hnothing : ∀ u : State, u.tmr ≠ 0 → u.rxq = [] → attempt u = (.pending, { u with tmr := u.tmr - 1 })) :
    countsDown q expired := by
  intro u
  constructor
  · intro htmr
    rw [hrule, hexpired u htmr]
    rfl
  · intro htmr hrxq
    rw [hrule, hnothing u htmr hrxq]
    rfl

theorem countsDown_pollAck {q : Seq} {n : AckNo} {matched expired : State → State}
    (hrule : ∀ u, exec q.instr u = waitRule matched expired (u.waitAckOnce n)) : countsDown q expired :=
  countsDown_of_waitRule hrule (fun _ htmr => waitAckOnce_expired htmr)
    (fun _ htmr hrxq => waitAckOnce_short htmr (by simp [hrxq]))

theorem countsDown_pollCtl {q : Seq} {code : CtlCode} {matched expired : State → State}
    (hrule : ∀ u, exec q.instr u = waitRule matched expired (pollAttempt (readCtl code) u)) : countsDown q expired :=
  countsDown_of_waitRule hrule (fun _ htmr => pollCtl_expired htmr) (fun _ htmr hrxq => pollCtl_nothing htmr hrxq)

theorem countsDown_xfWaitResp : countsDown .xfWaitResp State.lineTimeout := by
  intro u
  simp only [Seq.instr, exec, execXfWaitResp]
  constructor
  · intro htmr
    rw [waitRespOnce_expired htmr]
  · intro htmr hrxq
    rw [waitRespOnce_short htmr (.inl hrxq)]
    rfl

section
variable {q : Seq} {expired : State → State}

/-- One attempt with a silent peer and the tick after it: only the timer and the tick count have moved. -/
theorem run_silent_round (hq : countsDown q expired) (hseq : s.seq = q) (hlegal : legalParams s.cfg = true)
    (hport : s.port = none) (hphase : s.phase = .running) (hsilent : s.silent) (htmr : s.tmr ≠ 0) (n : Nat) :
    Host.Core.run core (n + 2) s
      = Host.Core.run core n { s with tmr := s.tmr - 1, ticks := s.ticks + 1 } := by
  obtain ⟨hrxq, harr, hinputs, hrecurring⟩ := hsilent
  obtain ⟨-, hcount⟩ := hq s
  have hwait := run_exec hlegal hport hphase (by rw [hseq]; exact hcount htmr hrxq) (n + 1)
  have htick := run_tick (s := { s with tmr := s.tmr - 1, phase := .waiting }) hlegal hport rfl hinputs hrecurring n
  rw [hwait, htick]
  simp [State.beginTick, hrxq, harr, hphase]

/-- With a silent peer a wait with `n` ticks left makes `n` attempts and expires in the tick after them (R120). -/
theorem run_silent_expires (hq : countsDown q expired) (n : Nat) (hn : s.tmr.toNat = n) (hseq : s.seq = q)
    (hlegal : legalParams s.cfg = true) (hport : s.port = none) (hphase : s.phase = .running) (hsilent : s.silent) :
    Host.Core.run core (2 * n + 1) s = .next (expired { s with tmr := 0, ticks := s.ticks + n }) := by
  induction n generalizing s with
  | zero =>
    have htmr : s.tmr = 0 := BitVec.eq_of_toNat_eq hn
    obtain ⟨hexpire, -⟩ := hq s
    have hnow : { s with tmr := 0, ticks := s.ticks + 0 } = s := by rw [← htmr]; rfl
    rw [hnow]
    exact run_exec hlegal hport hphase (by rw [hseq]; exact hexpire htmr) 0
  | succ n ih =>
    have htmr : s.tmr ≠ 0 := by
      intro h0
      simp [h0] at hn
    have hleft : (s.tmr - 1).toNat = n := by
      rw [toNat_tmr_sub_one htmr]
      omega
    have hround := run_silent_round hq hseq hlegal hport hphase hsilent htmr (2 * n + 1)
    have hrest := ih (s := { s with tmr := s.tmr - 1, ticks := s.ticks + 1 }) hleft hseq hlegal hport hphase hsilent
    rw [show 2 * (n + 1) + 1 = 2 * n + 1 + 2 by omega, hround, hrest]
    simp only [Nat.add_assoc, Nat.add_comm 1 n]

end

theorem errField_setStageOut (x : Stage) (st : Word) (o : StageOutcome) :
    errField (setStageOut x st o) = errField st := by
  cases x with
  | h1 => exact errField_setH1Out _ _
  | h2 => exact errField_setH2Out _ _
  | xf => exact errField_setXfOut _ _

/-- The five handshake waits, each with its DONE state and its stage (R141, R148, R162, R164, R183). -/
theorem countsDown_handshake {q done : Seq} {x : Stage}
    (h : (q, done, x) ∈ [(Seq.h1WaitEnq, Seq.h1Done, Stage.h1), (.h1WaitEot, .h1Done, .h1), (.h2WaitAck0, .h2Done, .h2),
      (.h2WaitAck1, .h2Done, .h2), (.xfWaitAck0, .xfDone, .xf)]) :
    done = doneState x ∧ countsDown q (·.raise x .handshakeTimeout) := by
  simp only [List.mem_cons, Prod.mk.injEq, List.not_mem_nil, or_false] at h
  rcases h with ⟨rfl, rfl, rfl⟩ | ⟨rfl, rfl, rfl⟩ | ⟨rfl, rfl, rfl⟩ | ⟨rfl, rfl, rfl⟩ | ⟨rfl, rfl, rfl⟩
  · exact ⟨rfl, countsDown_pollCtl exec_h1WaitEnq_rule⟩
  · exact ⟨rfl, countsDown_pollCtl exec_h1WaitEot_rule⟩
  · exact ⟨rfl, countsDown_pollAck exec_h2WaitAck0_rule⟩
  · exact ⟨rfl, countsDown_pollAck exec_h2WaitAck1_rule⟩
  · exact ⟨rfl, countsDown_pollAck exec_xfWaitAck0_rule⟩

/-- Settles O56: the rounds of `run_silent_expires`, and what each kind of wait makes of expiry. -/
theorem silentPeerExpiresOnTime : Obligations.SilentPeerExpiresOnTime := by
  unfold Obligations.SilentPeerExpiresOnTime
  constructor
  · intro s done x hwait hlegal hport hphase hsilent
    obtain ⟨rfl, hq⟩ := countsDown_handshake hwait
    refine ⟨_, run_silent_expires hq _ rfl rfl hlegal hport hphase hsilent, rfl, rfl, ?_, ?_, rfl⟩
    · rw [State.raise_status, errField_setStageOut, errField_setErr]
      rfl
    · rw [State.raise_status, stageOut_setStageOut]
      rfl
  · intro s hseq _ _ hlegal hport hphase hsilent
    exact ⟨_, run_silent_expires countsDown_xfWaitResp _ rfl hseq hlegal hport hphase hsilent, rfl, rfl,
      errField_setErr _ _, xfOut_setErr _ _, rfl, rfl, rfl⟩

/-! ### One token on the line (R68; log 2, log 7) -/

/-- The state in which a rule finds a token that came alone: the tick has delivered its bytes (R30). -/
def State.hears (s : State) (bytes : List Byte) : State :=
  { s with rxq := bytes, ticks := s.ticks + 1, phase := .running }

/-- A token run as an instruction is the arrival of its bytes (log 2). -/
theorem exec_token {i : Instr} (hi : i.format = .c1 ∨ i.format = .c2) (s : State) :
    exec i s = .next (s.arrive (encode i)) := by
  cases i with
  | soh | stx | etx | eot | enq | dle | nak | etb | ack0 | ack1 | dleSoh | dleStx | dleEtx | dleEtb => rfl
  | _ => simp [Instr.format] at hi

/-- A token that arrives alone at a silent waiting machine is delivered by the next tick, and the state that waits
makes an attempt. -/
theorem token_attempt {i : Instr} {P : State → Prop} (hi : i.format = .c1 ∨ i.format = .c2)
    (hlegal : legalParams s.cfg = true) (hport : s.port = none) (hphase : s.phase = .waiting) (hsilent : s.silent)
    (h : ∃ t, exec s.seq.instr (s.hears (encode i)) = .next t ∧ P t) :
    ∃ s1 s2 s3 : State, exec i s = .next s1 ∧ step s1 = .next s2 ∧ step s2 = .next s3 ∧ P s3 := by
  obtain ⟨t, hexec, ht⟩ := h
  obtain ⟨hrxq, harr, hinputs, hrecurring⟩ := hsilent
  refine ⟨_, s.hears (encode i), t, exec_token hi s, ?_, ?_, ht⟩
  · rw [step_waiting (s := s.arrive (encode i)) hlegal hport hphase,
      environment_tick (s := s.arrive (encode i)) hinputs hrecurring]
    simp [State.beginTick, State.arrive, State.hears, hrxq, harr]
  · exact (step_running (s := s.hears (encode i)) hlegal hport rfl).trans hexec

/-- Two tokens of one format with the same bytes are one. -/
theorem eq_of_encode_eq {i j : Instr} (hi : wellFormed i = true) (hj : wellFormed j = true)
    (hformat : i.format = j.format) (h : encode i = encode j) : i = j := by
  have hdecode := decodeOfEncode i [] hi
  rw [hformat, h, decodeOfEncode j [] hj] at hdecode
  cases hdecode
  rfl

theorem encode_of_c1 {i : Instr} (h : i.format = .c1) : wellFormed i = true ∧ ∃ b, encode i = [b] := by
  refine ⟨wellFormed_of_token (.inl h), ?_⟩
  cases i with
  | soh | stx | etx | eot | enq | dle | nak | etb => exact ⟨_, rfl⟩
  | _ => cases h

theorem encode_of_c2 {i : Instr} (h : i.format = .c2) : wellFormed i = true ∧ ∃ d, encode i = [bDLE, d] := by
  refine ⟨wellFormed_of_token (.inr h), ?_⟩
  cases i with
  | ack0 | ack1 | dleSoh | dleStx | dleEtx | dleEtb => exact ⟨_, rfl⟩
  | _ => cases h

/-- The state waits on, with `rest` left in RXQ, and nothing is sent or recorded in `STATUS`. -/
def State.waitsOnWith (s : State) (rest : List Byte) (t : State) : Prop :=
  t.seq = s.seq ∧ t.phase = .waiting ∧ t.rxq = rest ∧ t.status = s.status ∧ t.txs = s.txs

/-- An attempt that leaves `rest` in RXQ and finds nothing it awaits leaves the state waiting. -/
theorem waitsOnWith_of_exec {bytes rest : List Byte}
    (h : exec s.seq.instr (s.hears bytes) =
      .next { s.hears bytes with tmr := s.tmr - 1, rxq := rest, phase := .waiting }) :
    ∃ t, exec s.seq.instr (s.hears bytes) = .next t ∧ s.waitsOnWith rest t :=
  ⟨_, h, rfl, rfl, rfl, rfl, rfl⟩

section
variable {q : Seq} {code : CtlCode} {n : AckNo} {matched expired : State → State}

/-- A one-byte wait loses a byte it does not await, and goes on waiting (R121, R122). -/
theorem ctl_wait_loses_byte (hseq : s.seq = q)
    (hrule : ∀ u, exec q.instr u = waitRule matched expired (pollAttempt (readCtl code) u)) (htmr : s.tmr ≠ 0)
    {b : Byte} (rest : List Byte) (hb : b ≠ ctlByte code) :
    ∃ t, exec s.seq.instr (s.hears (b :: rest)) = .next t ∧ s.waitsOnWith rest t := by
  have hpoll := pollCtl_other (s := s.hears (b :: rest)) htmr rfl hb
  exact waitsOnWith_of_exec (by rw [hseq, hrule, hpoll]; rfl)

/-- A chunk wait loses a pair it does not await, and goes on waiting (R123). -/
theorem ack_wait_loses_pair (hseq : s.seq = q)
    (hrule : ∀ u, exec q.instr u = waitRule matched expired (u.waitAckOnce n)) (htmr : s.tmr ≠ 0)
    {d : Byte} (hd : d ≠ ackDigit n) :
    ∃ t, exec s.seq.instr (s.hears [bDLE, d]) = .next t ∧ s.waitsOnWith [] t := by
  have hpoll := waitAckOnce_other (s := s.hears [bDLE, d]) (n := n) htmr rfl fun hpair => hd hpair.2
  exact waitsOnWith_of_exec (by rw [hseq, hrule, hpoll]; rfl)

/-- A chunk wait leaves a lone byte in RXQ, and goes on waiting (R123). -/
theorem ack_wait_leaves_byte (hseq : s.seq = q)
    (hrule : ∀ u, exec q.instr u = waitRule matched expired (u.waitAckOnce n)) (htmr : s.tmr ≠ 0) (b : Byte) :
    ∃ t, exec s.seq.instr (s.hears [b]) = .next t ∧ s.waitsOnWith [b] t := by
  have hpoll := waitAckOnce_short (s := s.hears [b]) (n := n) htmr (by simp [State.hears])
  exact waitsOnWith_of_exec (by rw [hseq, hrule, hpoll]; rfl)

end

/-- The wait for a line's response goes on after an attempt that found nothing (R124, R188). -/
theorem exec_xfWaitResp_of_pending (h : s.waitRespOnce = (.pending, t)) :
    exec .xfWaitResp s = .next { t with phase := .waiting } := by
  rw [exec, execXfWaitResp, h]
  rfl

/-- A NAK costs the attempt that reads it and sends the frame again (R188). -/
theorem exec_xfWaitResp_nak (htmr : s.tmr ≠ 0) (hrxq : s.rxq = [bNAK]) :
    exec .xfWaitResp s = .next { s with
      rxq := [], log := s.log ++ [⟨s.ticks - 1, .xfLineNak, s.li⟩]
      txs := s.txs ++ s.txf.map fun b => (s.ticks - 1, b)
      tmr := if s.cfg.nakRestartsWindow then nLine s.cfg else s.tmr - 1, phase := .waiting } := by
  rw [exec, execXfWaitResp, waitRespOnce_nak htmr hrxq]
  exact congrArg Host.Outcome.next (retransmit_eq _)

theorem exec_xfWaitResp_of_matched (h : s.waitRespOnce = (.matched, t)) :
    exec .xfWaitResp s = .next ({ t.logEvent .xfLineAck t.li with li := t.li + 1 }.goTo .xfNextLine) := by
  rw [exec, execXfWaitResp, h]
  rfl

/-- The wait for a line's response loses a pair that is no acknowledgment (R124). -/
theorem xfWaitResp_loses_pair (hseq : s.seq = .xfWaitResp) (htmr : s.tmr ≠ 0) {d : Byte}
    (hd : ¬(d = 0x30 ∨ d = 0x31)) :
    ∃ t, exec s.seq.instr (s.hears [bDLE, d]) = .next t ∧ s.waitsOnWith [] t := by
  have hpoll := waitRespOnce_noise (s := s.hears [bDLE, d]) htmr rfl (by decide) fun hpair => hd hpair.2
  exact waitsOnWith_of_exec (by rw [hseq]; exact exec_xfWaitResp_of_pending hpoll)

/-- The wait for a line's response leaves a lone byte in RXQ, unless it is a NAK (R124). -/
theorem xfWaitResp_leaves_byte (hseq : s.seq = .xfWaitResp) (htmr : s.tmr ≠ 0) {b : Byte} (hb : b ≠ bNAK) :
    ∃ t, exec s.seq.instr (s.hears [b]) = .next t ∧ s.waitsOnWith [b] t := by
  have hpoll := waitRespOnce_short (s := s.hears [b]) htmr (.inr ⟨b, rfl, hb⟩)
  exact waitsOnWith_of_exec (by rw [hseq]; exact exec_xfWaitResp_of_pending hpoll)

/-- The state goes on to `after`, having taken all of RXQ. -/
def State.goesOnTo (after : Seq) (t : State) : Prop := t.seq = after ∧ t.phase = .running ∧ t.rxq = []

/-- The state that awaits a token goes on when it comes alone (R68). -/
theorem awaited_token_goes_on {i : Instr} {after : Seq} (htmr : s.tmr ≠ 0)
    (h : (s.seq, i, after) ∈ [(Seq.h1WaitEnq, Instr.enq, Seq.h1SendAck0), (.h1WaitEot, .eot, .h1Done),
      (.h2WaitAck0, .ack0, .h2SendId), (.h2WaitAck1, .ack1, .h2Pause), (.xfWaitAck0, .ack0, .xfBuildFrame),
      (.xfWaitResp, .ack0, .xfNextLine), (.xfWaitResp, .ack1, .xfNextLine)]) :
    (i.format = .c1 ∨ i.format = .c2) ∧
      ∃ t, exec s.seq.instr (s.hears (encode i)) = .next t ∧ State.goesOnTo after t := by
  simp only [List.mem_cons, Prod.mk.injEq, List.not_mem_nil, or_false] at h
  rcases h with ⟨hseq, rfl, rfl⟩ | ⟨hseq, rfl, rfl⟩ | ⟨hseq, rfl, rfl⟩ | ⟨hseq, rfl, rfl⟩ | ⟨hseq, rfl, rfl⟩ |
    ⟨hseq, rfl, rfl⟩ | ⟨hseq, rfl, rfl⟩
  all_goals rw [hseq]
  · have hpoll := pollCtl_awaited (code := .enq) (s := s.hears (encode .enq)) htmr rfl
    exact ⟨.inl rfl, _, congrArg (waitRule _ _) hpoll, rfl, rfl, rfl⟩
  · have hpoll := pollCtl_awaited (code := .eot) (s := s.hears (encode .eot)) htmr rfl
    exact ⟨.inl rfl, _, congrArg (waitRule _ _) hpoll, rfl, rfl, rfl⟩
  · have hpoll := waitAckOnce_awaited (n := .ack0) (s := s.hears (encode .ack0)) htmr rfl
    exact ⟨.inr rfl, _, congrArg (waitRule _ _) hpoll, rfl, rfl, rfl⟩
  · have hpoll := waitAckOnce_awaited (n := .ack1) (s := s.hears (encode .ack1)) htmr rfl
    exact ⟨.inr rfl, _, congrArg (waitRule _ _) hpoll, rfl, rfl, rfl⟩
  · have hpoll := waitAckOnce_awaited (n := .ack0) (s := s.hears (encode .ack0)) htmr rfl
    exact ⟨.inr rfl, _, congrArg (waitRule _ _) hpoll, rfl, rfl, rfl⟩
  · have hpoll := waitRespOnce_ack (s := s.hears (encode .ack0)) htmr rfl (.inl rfl)
    exact ⟨.inr rfl, _, exec_xfWaitResp_of_matched hpoll, rfl, rfl, rfl⟩
  · have hpoll := waitRespOnce_ack (s := s.hears (encode .ack1)) htmr rfl (.inr rfl)
    exact ⟨.inr rfl, _, exec_xfWaitResp_of_matched hpoll, rfl, rfl, rfl⟩

/-- A one-byte wait loses a control code it does not await (R121, R122). -/
theorem other_code_is_lost {i : Instr} (hi : i.format = .c1) (htmr : s.tmr ≠ 0)
    (h : (s.seq = .h1WaitEnq ∧ i ≠ .enq) ∨ (s.seq = .h1WaitEot ∧ i ≠ .eot)) :
    ∃ t, exec s.seq.instr (s.hears (encode i)) = .next t ∧ s.waitsOnWith [] t := by
  obtain ⟨hwf, b, hb⟩ := encode_of_c1 hi
  rw [hb]
  rcases h with ⟨hseq, hne⟩ | ⟨hseq, hne⟩
  · refine ctl_wait_loses_byte (code := .enq) hseq exec_h1WaitEnq_rule htmr [] ?_
    rintro rfl
    exact hne (eq_of_encode_eq hwf rfl hi hb)
  · refine ctl_wait_loses_byte (code := .eot) hseq exec_h1WaitEot_rule htmr [] ?_
    rintro rfl
    exact hne (eq_of_encode_eq hwf rfl hi hb)

/-- A one-byte wait loses the DLE of a pair and leaves the byte after it (R121, R122). -/
theorem pair_loses_dle {i : Instr} (hi : i.format = .c2) (htmr : s.tmr ≠ 0)
    (h : s.seq = .h1WaitEnq ∨ s.seq = .h1WaitEot) :
    ∃ t, exec s.seq.instr (s.hears (encode i)) = .next t ∧ s.waitsOnWith ((encode i).drop 1) t := by
  obtain ⟨-, d, hd⟩ := encode_of_c2 hi
  rw [hd]
  rcases h with hseq | hseq
  · exact ctl_wait_loses_byte (code := .enq) hseq exec_h1WaitEnq_rule htmr [d] (by decide)
  · exact ctl_wait_loses_byte (code := .eot) hseq exec_h1WaitEot_rule htmr [d] (by decide)

/-- A chunk wait loses a pair it does not await (R123, R124). -/
theorem other_pair_is_lost {i : Instr} (hi : i.format = .c2) (htmr : s.tmr ≠ 0)
    (h : (s.seq ∈ [Seq.h2WaitAck0, .xfWaitAck0] ∧ i ≠ .ack0) ∨ (s.seq = .h2WaitAck1 ∧ i ≠ .ack1) ∨
      (s.seq = .xfWaitResp ∧ i ≠ .ack0 ∧ i ≠ .ack1)) :
    ∃ t, exec s.seq.instr (s.hears (encode i)) = .next t ∧ s.waitsOnWith [] t := by
  obtain ⟨hwf, d, hd⟩ := encode_of_c2 hi
  have hack0 : i ≠ .ack0 → d ≠ ackDigit .ack0 := fun hne hdigit =>
    hne (eq_of_encode_eq hwf rfl hi (by rw [hd, hdigit]; rfl))
  have hack1 : i ≠ .ack1 → d ≠ ackDigit .ack1 := fun hne hdigit =>
    hne (eq_of_encode_eq hwf rfl hi (by rw [hd, hdigit]; rfl))
  rw [hd]
  rcases h with ⟨hseq, hne⟩ | ⟨hseq, hne⟩ | ⟨hseq, hne0, hne1⟩
  · simp only [List.mem_cons, List.not_mem_nil, or_false] at hseq
    rcases hseq with hseq | hseq
    · exact ack_wait_loses_pair hseq exec_h2WaitAck0_rule htmr (hack0 hne)
    · exact ack_wait_loses_pair hseq exec_xfWaitAck0_rule htmr (hack0 hne)
  · exact ack_wait_loses_pair hseq exec_h2WaitAck1_rule htmr (hack1 hne)
  · exact xfWaitResp_loses_pair hseq htmr (not_or.mpr ⟨hack0 hne0, hack1 hne1⟩)

/-- A chunk wait leaves a lone control code in RXQ, the NAK of a line's response apart (R123, R124). -/
theorem lone_code_is_left {i : Instr} (hi : i.format = .c1) (htmr : s.tmr ≠ 0)
    (h : s.seq ∈ [Seq.h2WaitAck0, .h2WaitAck1, .xfWaitAck0] ∨ (s.seq = .xfWaitResp ∧ i ≠ .nak)) :
    ∃ t, exec s.seq.instr (s.hears (encode i)) = .next t ∧ s.waitsOnWith (encode i) t := by
  obtain ⟨hwf, b, hb⟩ := encode_of_c1 hi
  rw [hb]
  rcases h with hseq | ⟨hseq, hne⟩
  · simp only [List.mem_cons, List.not_mem_nil, or_false] at hseq
    rcases hseq with hseq | hseq | hseq
    · exact ack_wait_leaves_byte hseq exec_h2WaitAck0_rule htmr b
    · exact ack_wait_leaves_byte hseq exec_h2WaitAck1_rule htmr b
    · exact ack_wait_leaves_byte hseq exec_xfWaitAck0_rule htmr b
  · refine xfWaitResp_leaves_byte hseq htmr ?_
    rintro rfl
    exact hne (eq_of_encode_eq hwf rfl hi hb)

/-- Settles O57: the attempt that each kind of token meets in each kind of wait, by `token_attempt`. -/
theorem tokensAreRecognisedByState : Obligations.TokensAreRecognisedByState := by
  unfold Obligations.TokensAreRecognisedByState
  intro s hlegal hport hphase hsilent htmr
  refine ⟨fun i after h => ?_, fun i hi h => ?_, fun i hi h => ?_, fun i hi h => ?_, fun i hi h => ?_, fun hseq => ?_⟩
  · obtain ⟨hi, hattempt⟩ := awaited_token_goes_on htmr h
    exact token_attempt hi hlegal hport hphase hsilent hattempt
  · exact token_attempt (.inl hi) hlegal hport hphase hsilent (other_code_is_lost hi htmr h)
  · exact token_attempt (.inr hi) hlegal hport hphase hsilent (pair_loses_dle hi htmr h)
  · exact token_attempt (.inr hi) hlegal hport hphase hsilent (other_pair_is_lost hi htmr h)
  · exact token_attempt (.inl hi) hlegal hport hphase hsilent (lone_code_is_left hi htmr h)
  · have hinstr : s.seq.instr = .xfWaitResp := by rw [hseq]; rfl
    have hexec := exec_xfWaitResp_nak (s := s.hears (encode .nak)) htmr rfl
    rw [← hinstr] at hexec
    exact token_attempt (.inl rfl) hlegal hport hphase hsilent ⟨_, hexec, hseq, rfl, rfl, rfl, rfl, rfl⟩

end Sys2Proof.Machine
end

section
/-! A peer that NAKs for ever (R279; log 7): the steps of a round, the loop that never leaves `XF_WAIT_RESP`, and the
rounds counted, with the window restarted by each NAK and without. -/

namespace Sys2Proof.Machine

variable {s t : State} {gap : Nat} {rest : List Input}

/-! ### One step each -/

/-- The engine waits for a line's response, with parameters R9 allows and nothing put before it. -/
def State.awaitsResponse (s : State) : Prop :=
  legalParams s.cfg = true ∧ s.undisturbed ∧ s.seq = .xfWaitResp

theorem toNat_nLine (p : Params) : (nLine p).toNat = 5000 / p.tPollMs := by
  have hmax : tLineMs / p.tPollMs ≤ 5000 := Nat.div_le_self _ _
  rw [nLine, BitVec.toNat_ofNat, Nat.mod_eq_of_lt (by omega)]
  rfl

theorem step_nak_arrives (hawaits : s.awaitsResponse) (hphase : s.phase = .waiting) (hnak : s.nakEvery gap) :
    step s = .next { s with inputs := .replicate gap .tick, arr := [bNAK] } := by
  obtain ⟨hlegal, hport, -⟩ := hawaits
  obtain ⟨-, harr, hinputs, hrecurring⟩ := hnak
  rw [step_waiting hlegal hport hphase, environment_of_coming (coming_recurring s hinputs hrecurring),
    State.take, State.arrive, harr]
  rfl

theorem step_listed_tick (hawaits : s.awaitsResponse) (hphase : s.phase = .waiting) (hinputs : s.inputs = .tick :: rest) :
    step s = .next { s with inputs := rest }.beginTick := by
  obtain ⟨hlegal, hport, -⟩ := hawaits
  rw [step_waiting hlegal hport hphase, environment_listed hinputs]
  rfl

/-- A running wait for the response makes its attempt. -/
theorem step_attempt (hawaits : s.awaitsResponse) (hphase : s.phase = .running) : step s = exec .xfWaitResp s := by
  obtain ⟨hlegal, hport, hseq⟩ := hawaits
  rw [step_running hlegal hport hphase, hseq]
  rfl

theorem step_finds_nothing (hawaits : s.awaitsResponse) (hphase : s.phase = .running) (hrxq : s.rxq = [])
    (htmr : s.tmr ≠ 0) : step s = .next { s with tmr := s.tmr - 1, phase := .waiting } := by
  rw [step_attempt hawaits hphase]
  exact (countsDown_xfWaitResp s).2 htmr hrxq

theorem step_hears_nak (hawaits : s.awaitsResponse) (hphase : s.phase = .running) (hrxq : s.rxq = [bNAK])
    (htmr : s.tmr ≠ 0) :
    step s = .next { s with
      rxq := [], log := s.log ++ [⟨s.ticks - 1, .xfLineNak, s.li⟩]
      txs := s.txs ++ s.txf.map fun b => (s.ticks - 1, b)
      tmr := if s.cfg.nakRestartsWindow then nLine s.cfg else s.tmr - 1, phase := .waiting } := by
  rw [step_attempt hawaits hphase, exec_xfWaitResp_nak htmr hrxq]

/-! ### The engine never leaves `XF_WAIT_RESP` -/

/-- What a round leaves unchanged: the state of the sequencer, the line, `STATUS`, and what the step reads. -/
def State.sameLine (s t : State) : Prop :=
  t.seq = s.seq ∧ t.li = s.li ∧ t.status = s.status ∧ t.skipped = s.skipped ∧ t.txf = s.txf ∧
    t.cfg = s.cfg ∧ t.port = s.port ∧ t.recurring = s.recurring

/-- Where a round with a NAK before every `gap`-th tick can be: between ticks with `k` ticks to the next NAK; the NAK
on its way; the NAK delivered; an attempt that finds nothing, `k` ticks before the next NAK. The timer outlasts the
ticks that are left. -/
inductive State.InNakRound (gap : Nat) (s : State) : Prop
  | idle (k : Nat) (hphase : s.phase = .waiting) (hrxq : s.rxq = []) (harr : s.arr = [])
      (hinputs : s.inputs = .replicate k .tick) (htmr : k < s.tmr.toNat)
  | nakComing (hphase : s.phase = .waiting) (hrxq : s.rxq = []) (harr : s.arr = [bNAK])
      (hinputs : s.inputs = .replicate gap .tick) (htmr : s.tmr ≠ 0)
  | nakHeard (hphase : s.phase = .running) (hrxq : s.rxq = [bNAK]) (harr : s.arr = [])
      (hinputs : s.inputs = .replicate (gap - 1) .tick) (htmr : s.tmr ≠ 0)
  | polling (k : Nat) (hphase : s.phase = .running) (hrxq : s.rxq = []) (harr : s.arr = [])
      (hinputs : s.inputs = .replicate k .tick) (htmr : k + 1 < s.tmr.toNat)

theorem tmr_ne_zero_of_lt {n : Timer} {k : Nat} (h : k < n.toNat) : n ≠ 0 := by
  rintro rfl
  simp at h

/-- Every step of a round goes on with the round, when a NAK restarts a window no shorter than `gap` ticks. -/
theorem step_inNakRound (hround : s.InNakRound gap) (hawaits : s.awaitsResponse)
    (hrecurring : s.recurring = .arrive [0x15] :: .replicate gap .tick) (hrestarts : s.cfg.nakRestartsWindow = true)
    (hgap : 0 < gap) (hwindow : gap ≤ 5000 / s.cfg.tPollMs) :
    ∃ t, step s = .next t ∧ s.sameLine t ∧ t.InNakRound gap := by
  have hsame : s.sameLine s := ⟨rfl, rfl, rfl, rfl, rfl, rfl, rfl, rfl⟩
  cases hround with
  | idle k hphase hrxq harr hinputs htmr =>
    cases k with
    | zero =>
      exact ⟨_, step_nak_arrives hawaits hphase ⟨hrxq, harr, hinputs, hrecurring⟩, hsame,
        .nakComing hphase hrxq rfl rfl (tmr_ne_zero_of_lt htmr)⟩
    | succ k =>
      exact ⟨_, step_listed_tick hawaits hphase hinputs, hsame,
        .polling k rfl (by simp [State.beginTick, hrxq, harr]) rfl rfl htmr⟩
  | nakComing hphase hrxq harr hinputs htmr =>
    obtain ⟨g, rfl⟩ := Nat.exists_eq_succ_of_ne_zero hgap.ne'
    exact ⟨_, step_listed_tick hawaits hphase hinputs, hsame,
      .nakHeard rfl (by simp [State.beginTick, hrxq, harr]) rfl rfl htmr⟩
  | nakHeard hphase hrxq harr hinputs htmr =>
    have houtlasts : gap - 1 < (nLine s.cfg).toNat := by
      rw [toNat_nLine]
      omega
    have hresend := step_hears_nak hawaits hphase hrxq htmr
    rw [hrestarts, if_pos rfl] at hresend
    exact ⟨_, hresend, hsame, .idle (gap - 1) rfl rfl harr hinputs houtlasts⟩
  | polling k hphase hrxq harr hinputs htmr =>
    have hleft := tmr_ne_zero_of_lt htmr
    have hcount : (s.tmr - 1).toNat = s.tmr.toNat - 1 := toNat_tmr_sub_one hleft
    exact ⟨_, step_finds_nothing hawaits hphase hrxq hleft, hsame,
      .idle k rfl hrxq harr hinputs (show k < (s.tmr - 1).toNat by omega)⟩

/-- A NAK in every window holds the engine in `XF_WAIT_RESP`, however many steps are run (R279). -/
theorem run_inNakRound (m : Nat) (hround : s.InNakRound gap) (hawaits : s.awaitsResponse)
    (hrecurring : s.recurring = .arrive [0x15] :: .replicate gap .tick) (hrestarts : s.cfg.nakRestartsWindow = true)
    (hgap : 0 < gap) (hwindow : gap ≤ 5000 / s.cfg.tPollMs) :
    ∃ t, Host.Core.run core m s = .next t ∧ s.sameLine t := by
  induction m generalizing s with
  | zero => exact ⟨s, rfl, rfl, rfl, rfl, rfl, rfl, rfl, rfl, rfl⟩
  | succ m ih =>
    obtain ⟨u, hstep, hsame, hround'⟩ := step_inNakRound hround hawaits hrecurring hrestarts hgap hwindow
    obtain ⟨hlegal, hport, hseq⟩ := hawaits
    obtain ⟨hseq', hli, hstatus, hskipped, htxf, hcfg, hport', hrecurring'⟩ := hsame
    obtain ⟨t, hrun, hseqt, hlit, hstatust, hskippedt, htxft, hcfgt, hportt, hrecurringt⟩ :=
      ih hround' ⟨hcfg ▸ hlegal, hport'.trans hport, hseq'.trans hseq⟩ (hrecurring'.trans hrecurring)
        (hcfg ▸ hrestarts) (hcfg ▸ hwindow)
    exact ⟨t, (run_succ hstep m).trans hrun, hseqt.trans hseq', hlit.trans hli, hstatust.trans hstatus,
      hskippedt.trans hskipped, htxft.trans htxf, hcfgt.trans hcfg, hportt.trans hport', hrecurringt.trans hrecurring'⟩

/-! ### The rounds counted -/

/-- The state in which the attempt finds a NAK, `g` ticks before the next one. -/
def State.hearsNak (g : Nat) (s : State) : State :=
  { s with rxq := [bNAK], inputs := .replicate g .tick, ticks := s.ticks + 1, phase := .running }

/-- The state after a NAK, the tick that delivers it and the attempt that reads it, `g` ticks before the next NAK. -/
def State.afterNak (g : Nat) (s : State) : State := { s with
  rxq := [], phase := .waiting, inputs := .replicate g .tick, ticks := s.ticks + 1
  log := s.log ++ [⟨s.ticks, .xfLineNak, s.li⟩]
  txs := s.txs ++ s.txf.map fun b => (s.ticks, b)
  tmr := if s.cfg.nakRestartsWindow then nLine s.cfg else s.tmr - 1 }

theorem run_nak_and_tick {g : Nat} (hawaits : s.awaitsResponse) (hphase : s.phase = .waiting)
    (hnak : s.nakEvery (g + 1)) (n : Nat) :
    Host.Core.run core (n + 2) s = Host.Core.run core n (s.hearsNak g) := by
  have htick := step_listed_tick (s := { s with inputs := .replicate (g + 1) .tick, arr := [bNAK] }) hawaits hphase rfl
  rw [run_succ (step_nak_arrives hawaits hphase hnak), run_succ htick]
  obtain ⟨hrxq, harr, -⟩ := hnak
  simp [State.beginTick, State.hearsNak, hrxq, harr]

theorem run_nak_heard {g : Nat} (hawaits : s.awaitsResponse) (hphase : s.phase = .waiting)
    (hnak : s.nakEvery (g + 1)) (htmr : s.tmr ≠ 0) (n : Nat) :
    Host.Core.run core (n + 3) s = Host.Core.run core n (s.afterNak g) := by
  have hresend := step_hears_nak (s := s.hearsNak g) hawaits rfl rfl htmr
  rw [run_nak_and_tick hawaits hphase hnak (n + 1), run_succ hresend]
  rfl

theorem run_idle_tick (hawaits : s.awaitsResponse) (hphase : s.phase = .waiting) (hrxq : s.rxq = []) (harr : s.arr = [])
    (hinputs : s.inputs = .tick :: rest) (htmr : s.tmr ≠ 0) (n : Nat) :
    Host.Core.run core (n + 2) s = Host.Core.run core n
      { s with inputs := rest, ticks := s.ticks + 1, tmr := s.tmr - 1 } := by
  have hdelivers : { s with inputs := rest }.beginTick = { s with inputs := rest }.hears [] := by
    simp [State.beginTick, State.hears, hrxq, harr]
  have hready : ({ s with inputs := rest }.hears []).awaitsResponse := hawaits
  have hpoll := step_finds_nothing hready rfl rfl htmr
  rw [run_succ (step_listed_tick hawaits hphase hinputs), hdelivers, run_succ hpoll]
  simp [State.hears, hrxq, hphase]

/-- The ticks between two NAKs each cost an attempt. -/
theorem run_idle_ticks (k : Nat) (hawaits : s.awaitsResponse) (hphase : s.phase = .waiting) (hrxq : s.rxq = [])
    (harr : s.arr = []) (hinputs : s.inputs = .replicate k .tick) (htmr : k ≤ s.tmr.toNat) (n : Nat) :
    Host.Core.run core (n + 2 * k) s = Host.Core.run core n
      { s with inputs := [], ticks := s.ticks + k, tmr := .ofNat 32 (s.tmr.toNat - k) } := by
  induction k generalizing s with
  | zero =>
    have hsame := with_inputs_nil hinputs
    simpa using congrArg (Host.Core.run core n) hsame.symm
  | succ k ih =>
    have hleft : s.tmr ≠ 0 := tmr_ne_zero_of_lt htmr
    have hcount : (s.tmr - 1).toNat = s.tmr.toNat - 1 := toNat_tmr_sub_one hleft
    have hrest := ih (s := { s with inputs := .replicate k .tick, ticks := s.ticks + 1, tmr := s.tmr - 1 })
      hawaits hphase hrxq harr rfl (show k ≤ (s.tmr - 1).toNat by omega)
    rw [show n + 2 * (k + 1) = n + 2 * k + 2 by omega, run_idle_tick hawaits hphase hrxq harr hinputs hleft, hrest]
    simp only [hcount, Nat.sub_sub, Nat.add_assoc, Nat.add_comm 1 k]

/-- The state after a round that the NAK's restart of the window outlasts: the wait for the next NAK. -/
def State.afterNakRound (g : Nat) (s : State) : State := { s.afterNak g with
  inputs := [], ticks := s.ticks + (g + 1), tmr := .ofNat 32 ((nLine s.cfg).toNat - g) }

theorem run_nak_round {g : Nat} (hawaits : s.awaitsResponse) (hphase : s.phase = .waiting)
    (hnak : s.nakEvery (g + 1)) (htmr : s.tmr ≠ 0) (hrestarts : s.cfg.nakRestartsWindow = true)
    (hwindow : g + 1 ≤ 5000 / s.cfg.tPollMs) (n : Nat) :
    Host.Core.run core (n + (2 * (g + 1) + 1)) s = Host.Core.run core n (s.afterNakRound g) := by
  have hreload : (s.afterNak g).tmr = nLine s.cfg := by simp [State.afterNak, hrestarts]
  have houtlasts : g ≤ (s.afterNak g).tmr.toNat := by
    rw [hreload, toNat_nLine]
    omega
  have hheard := run_nak_heard hawaits hphase hnak htmr (n + 2 * g)
  obtain ⟨-, harr, -⟩ := hnak
  have hidle := run_idle_ticks (s := s.afterNak g) g hawaits rfl rfl harr rfl houtlasts n
  rw [show n + (2 * (g + 1) + 1) = n + 2 * g + 3 by omega, hheard, hidle, hreload]
  simp only [State.afterNakRound, State.afterNak, Nat.add_assoc, Nat.add_comm 1 g]

theorem afterNakRound_tmr_ne_zero {g : Nat} (hwindow : g + 1 ≤ 5000 / s.cfg.tPollMs) :
    (s.afterNakRound g).tmr ≠ 0 := by
  apply tmr_ne_zero_of_lt (k := 0)
  have hlt := (nLine s.cfg).isLt
  rw [State.afterNakRound, BitVec.toNat_ofNat, Nat.mod_eq_of_lt (by omega), toNat_nLine]
  omega

/-- `n` rounds of a peer that NAKs in every window: `g + 1` ticks and one retransmission each (R279). -/
theorem run_nak_rounds {g : Nat} (n : Nat) (hawaits : s.awaitsResponse) (hphase : s.phase = .waiting)
    (hnak : s.nakEvery (g + 1)) (htmr : s.tmr ≠ 0) (hrestarts : s.cfg.nakRestartsWindow = true)
    (hwindow : g + 1 ≤ 5000 / s.cfg.tPollMs) :
    ∃ t, Host.Core.run core (n * (2 * (g + 1) + 1)) s = .next t ∧ t.ticks = s.ticks + n * (g + 1) ∧
      t.txs.length = s.txs.length + n * s.txf.length := by
  induction n generalizing s with
  | zero => exact ⟨s, by simp⟩
  | succ n ih =>
    have hround := run_nak_round hawaits hphase hnak htmr hrestarts hwindow (n * (2 * (g + 1) + 1))
    obtain ⟨-, harr, -, hrecurring⟩ := hnak
    obtain ⟨t, hrun, hticks, htxs⟩ := ih (s := s.afterNakRound g) hawaits rfl ⟨rfl, harr, rfl, hrecurring⟩
      (afterNakRound_tmr_ne_zero hwindow) hrestarts hwindow
    refine ⟨t, ?_, ?_, ?_⟩
    · rw [Nat.succ_mul, hround, hrun]
    · rw [hticks, Nat.succ_mul]
      simp only [State.afterNakRound]
      omega
    · rw [htxs, Nat.succ_mul]
      simp only [State.afterNakRound, State.afterNak, List.length_append, List.length_map]
      omega

/-- Without the restart every NAK costs an attempt, and the line is given up when the timer is at 0 (R187, R279). -/
theorem run_naks_use_up_window (n : Nat) (hn : s.tmr.toNat = n) (hawaits : s.awaitsResponse)
    (hphase : s.phase = .waiting) (hnak : s.nakEvery 1) (hrestarts : s.cfg.nakRestartsWindow = false) :
    ∃ t : State, Host.Core.run core (3 * n + 3) s = .next t.lineTimeout ∧ t.ticks = s.ticks + n + 1 ∧ t.li = s.li ∧
      t.skipped = s.skipped ∧ t.txs.length = s.txs.length + n * s.txf.length := by
  induction n generalizing s with
  | zero =>
    have htmr : s.tmr = 0 := BitVec.eq_of_toNat_eq hn
    have hexpire := (countsDown_xfWaitResp (s.hearsNak 0)).1 htmr
    have hlast := (step_attempt (s := s.hearsNak 0) hawaits rfl).trans hexpire
    have hrun := (run_nak_and_tick (g := 0) hawaits hphase hnak 1).trans (run_succ hlast 0)
    exact ⟨_, hrun, rfl, rfl, rfl, by simp [State.hearsNak]⟩
  | succ n ih =>
    have hleft : s.tmr ≠ 0 := tmr_ne_zero_of_lt (k := n) (by omega)
    have hheard := run_nak_heard hawaits hphase hnak hleft (3 * n + 3)
    obtain ⟨-, harr, -, hrecurring⟩ := hnak
    have htmr : (s.afterNak 0).tmr.toNat = n := by
      simp only [State.afterNak, hrestarts, Bool.false_eq_true, if_false, toNat_tmr_sub_one hleft]
      omega
    obtain ⟨t, hrun, hticks, hli, hskipped, htxs⟩ :=
      ih htmr hawaits rfl ⟨rfl, harr, rfl, hrecurring⟩ hrestarts
    refine ⟨t, ?_, ?_, hli, hskipped, ?_⟩
    · rw [show 3 * (n + 1) + 3 = 3 * n + 3 + 3 by omega, hheard, hrun]
    · rw [hticks]
      simp only [State.afterNak]
      omega
    · rw [htxs, Nat.succ_mul]
      simp only [State.afterNak, List.length_append, List.length_map]
      omega

/-- Settles O58: the loop of `InNakRound`, the rounds counted, and the window that NAKs use up. -/
theorem nakWithoutEnd : Obligations.NakWithoutEnd := by
  unfold Obligations.NakWithoutEnd
  constructor
  · intro s gap hlegal hport hseq hphase hnak htmr hrestarts hgap hwindow
    have hawaits : s.awaitsResponse := ⟨hlegal, hport, hseq⟩
    obtain ⟨g, rfl⟩ := Nat.exists_eq_add_one_of_ne_zero hgap.ne'
    refine ⟨fun m => ?_, fun n => run_nak_rounds n hawaits hphase hnak htmr hrestarts hwindow⟩
    obtain ⟨hrxq, harr, hinputs, hrecurring⟩ := hnak
    have hpos : 0 < s.tmr.toNat := Nat.pos_of_ne_zero fun h0 => htmr (BitVec.eq_of_toNat_eq h0)
    obtain ⟨t, hrun, hseqt, hli, hstatus, hskipped, htxf, -⟩ :=
      run_inNakRound m (.idle 0 hphase hrxq harr hinputs hpos) hawaits hrecurring hrestarts hgap hwindow
    exact ⟨t, hrun, hseqt.trans hseq, hli, hstatus, hskipped, htxf⟩
  · intro s hlegal hport hseq hphase hnak hrestarts _ _
    obtain ⟨t, hrun, hticks, hli, hskipped, htxs⟩ :=
      run_naks_use_up_window s.tmr.toNat rfl ⟨hlegal, hport, hseq⟩ hphase hnak hrestarts
    exact ⟨t.lineTimeout, hrun, rfl, hticks, congrArg (· + 1) hli, congrArg (· + 1) hskipped, errField_setErr _ _, htxs⟩

end Sys2Proof.Machine
end
